-- ==== Sys2Proof/Word.lean ====
section
/-! DEFINITION. The two word types of the core: 8-bit bytes and 16-bit words (00_scope.md R7, R8).
Byte order, halves and sign extension stand in Decode.lean, beside the code that reads immediates. -/

namespace Sys2Proof

/-- An 8-bit value: a register cell, a memory byte or an immediate (R7, R30). -/
abbrev Byte := BitVec 8

/-- A 16-bit value: PC, SP, a pair view or an address (R7, R31, R36, R37). -/
abbrev Word := BitVec 16

end Sys2Proof
end

