-- ==== Sys2Proof/Syntax.lean ====
section
/-! DEFINITION. The instructions: one constructor per row of spec/opcode_table.json (30_encoding.md R100, R101, R106),
and the operand fields of R92 to R98. A constructor spells its row's assembler name with the spec's register and operand
names: `ind` marks a parenthesised operand, HLI and HLD are HL+ and HL-, and the operands follow in the spec's order,
destination first. The functions after the inductive name the rows of one rule by their operand fields. -/

namespace Sys2Proof

/-- The 8-bit registers an instruction can name (R92). F has no code. -/
inductive Reg8 where
  | B | C | D | E | H | L | A
deriving DecidableEq, Repr

/-- The `r` field of R92: a register, or code 6, the memory byte at HL. -/
inductive Operand8 where
  | reg (r : Reg8)
  | indHL
deriving DecidableEq, Repr

/-- The `rr` field of R93. -/
inductive Reg16 where
  | BC | DE | HL | SP
deriving DecidableEq, Repr

/-- The `qq` field of R94: the four pair views of R31. -/
inductive Pair where
  | BC | DE | HL | AF
deriving DecidableEq, Repr

/-- The `cc` field of R95. -/
inductive Cond where
  | NZ | Z | NC | C
deriving DecidableEq, Repr

/-- The source operand of the accumulator operations (R171). -/
inductive AluSource where
  | reg (r : Reg8)
  | indHL
  | imm (n : Byte)
deriving DecidableEq, Repr

/-- The eight accumulator operations, in the order of their `y` field (R100, R171). -/
inductive AluOp where
  | add | adc | sub | sbc | and | xor | or | cp
deriving DecidableEq, Repr

/-- The eight extended rotates and shifts, in the order of their `y` field (R101, R224). -/
inductive ShiftOp where
  | rlc | rrc | rl | rr | sla | sra | swap | srl
deriving DecidableEq, Repr

/-- The accumulator rotates (R220 to R223). -/
inductive AccRotate where
  | rlca | rrca | rla | rra
deriving DecidableEq, Repr

/-- The eleven base values without an instruction (R102). -/
inductive IllegalRow where
  | D3 | DB | DD | E3 | E4 | EB | EC | ED | F4 | FC | FD
deriving DecidableEq, Repr

/-- The interrupt request an EI, DI or RETI step emits to the collaborator (R324). -/
inductive ImeRequest where
  | on | off
deriving DecidableEq, Repr

/-- The code of a register in the `r` field (R92). -/
def Reg8.code : Reg8 → Nat
  | .B => 0 | .C => 1 | .D => 2 | .E => 3 | .H => 4 | .L => 5 | .A => 7

/-- The code of an operand in the `r` field (R92): 6 is the memory byte at HL. -/
def Operand8.code : Operand8 → Nat
  | .reg r => r.code
  | .indHL => 6

/-- The code of a pair in the `rr` field (R93). -/
def Reg16.code : Reg16 → Nat
  | .BC => 0 | .DE => 1 | .HL => 2 | .SP => 3

/-- The code of a pair in the `qq` field (R94). -/
def Pair.code : Pair → Nat
  | .BC => 0 | .DE => 1 | .HL => 2 | .AF => 3

/-- The code of a condition in the `cc` field (R95). -/
def Cond.code : Cond → Nat
  | .NZ => 0 | .Z => 1 | .NC => 2 | .C => 3

/-- The operation field of the accumulator operations (R171). -/
def AluOp.code : AluOp → Nat
  | .add => 0 | .adc => 1 | .sub => 2 | .sbc => 3 | .and => 4 | .xor => 5 | .or => 6 | .cp => 7

/-- The operation field of the extended rotates and shifts (R224). -/
def ShiftOp.code : ShiftOp → Nat
  | .rlc => 0 | .rrc => 1 | .rl => 2 | .rr => 3 | .sla => 4 | .sra => 5 | .swap => 6 | .srl => 7

/-- The opcode value of an illegal row (R102). -/
def IllegalRow.opcode : IllegalRow → Byte
  | .D3 => 0xD3 | .DB => 0xDB | .DD => 0xDD | .E3 => 0xE3 | .E4 => 0xE4 | .EB => 0xEB
  | .EC => 0xEC | .ED => 0xED | .F4 => 0xF4 | .FC => 0xFC | .FD => 0xFD

/-- One constructor per row of spec/opcode_table.json. Immediates (R96): `n` an unsigned byte, `nn` a word, `e` the
displacement byte as fetched, `x` STOP's ignored second byte (R302). -/
inductive Instr where
  -- base opcodes 0x00 to 0x0F
  | nop
  | ld_BC_nn (nn : Word)
  | ld_indBC_A
  | inc_BC
  | inc_B
  | dec_B
  | ld_B_n (n : Byte)
  | rlca
  | ld_ind_nn_SP (nn : Word)
  | add_HL_BC
  | ld_A_indBC
  | dec_BC
  | inc_C
  | dec_C
  | ld_C_n (n : Byte)
  | rrca
  -- base opcodes 0x10 to 0x1F
  | stop (x : Byte)
  | ld_DE_nn (nn : Word)
  | ld_indDE_A
  | inc_DE
  | inc_D
  | dec_D
  | ld_D_n (n : Byte)
  | rla
  | jr_e (e : Byte)
  | add_HL_DE
  | ld_A_indDE
  | dec_DE
  | inc_E
  | dec_E
  | ld_E_n (n : Byte)
  | rra
  -- base opcodes 0x20 to 0x2F
  | jr_NZ_e (e : Byte)
  | ld_HL_nn (nn : Word)
  | ld_indHLI_A
  | inc_HL
  | inc_H
  | dec_H
  | ld_H_n (n : Byte)
  | daa
  | jr_Z_e (e : Byte)
  | add_HL_HL
  | ld_A_indHLI
  | dec_HL
  | inc_L
  | dec_L
  | ld_L_n (n : Byte)
  | cpl
  -- base opcodes 0x30 to 0x3F
  | jr_NC_e (e : Byte)
  | ld_SP_nn (nn : Word)
  | ld_indHLD_A
  | inc_SP
  | inc_indHL
  | dec_indHL
  | ld_indHL_n (n : Byte)
  | scf
  | jr_C_e (e : Byte)
  | add_HL_SP
  | ld_A_indHLD
  | dec_SP
  | inc_A
  | dec_A
  | ld_A_n (n : Byte)
  | ccf
  -- base opcodes 0x40 to 0x4F
  | ld_B_B
  | ld_B_C
  | ld_B_D
  | ld_B_E
  | ld_B_H
  | ld_B_L
  | ld_B_indHL
  | ld_B_A
  | ld_C_B
  | ld_C_C
  | ld_C_D
  | ld_C_E
  | ld_C_H
  | ld_C_L
  | ld_C_indHL
  | ld_C_A
  -- base opcodes 0x50 to 0x5F
  | ld_D_B
  | ld_D_C
  | ld_D_D
  | ld_D_E
  | ld_D_H
  | ld_D_L
  | ld_D_indHL
  | ld_D_A
  | ld_E_B
  | ld_E_C
  | ld_E_D
  | ld_E_E
  | ld_E_H
  | ld_E_L
  | ld_E_indHL
  | ld_E_A
  -- base opcodes 0x60 to 0x6F
  | ld_H_B
  | ld_H_C
  | ld_H_D
  | ld_H_E
  | ld_H_H
  | ld_H_L
  | ld_H_indHL
  | ld_H_A
  | ld_L_B
  | ld_L_C
  | ld_L_D
  | ld_L_E
  | ld_L_H
  | ld_L_L
  | ld_L_indHL
  | ld_L_A
  -- base opcodes 0x70 to 0x7F
  | ld_indHL_B
  | ld_indHL_C
  | ld_indHL_D
  | ld_indHL_E
  | ld_indHL_H
  | ld_indHL_L
  | halt
  | ld_indHL_A
  | ld_A_B
  | ld_A_C
  | ld_A_D
  | ld_A_E
  | ld_A_H
  | ld_A_L
  | ld_A_indHL
  | ld_A_A
  -- base opcodes 0x80 to 0x8F
  | add_A_B
  | add_A_C
  | add_A_D
  | add_A_E
  | add_A_H
  | add_A_L
  | add_A_indHL
  | add_A_A
  | adc_A_B
  | adc_A_C
  | adc_A_D
  | adc_A_E
  | adc_A_H
  | adc_A_L
  | adc_A_indHL
  | adc_A_A
  -- base opcodes 0x90 to 0x9F
  | sub_B
  | sub_C
  | sub_D
  | sub_E
  | sub_H
  | sub_L
  | sub_indHL
  | sub_A
  | sbc_A_B
  | sbc_A_C
  | sbc_A_D
  | sbc_A_E
  | sbc_A_H
  | sbc_A_L
  | sbc_A_indHL
  | sbc_A_A
  -- base opcodes 0xA0 to 0xAF
  | and_B
  | and_C
  | and_D
  | and_E
  | and_H
  | and_L
  | and_indHL
  | and_A
  | xor_B
  | xor_C
  | xor_D
  | xor_E
  | xor_H
  | xor_L
  | xor_indHL
  | xor_A
  -- base opcodes 0xB0 to 0xBF
  | or_B
  | or_C
  | or_D
  | or_E
  | or_H
  | or_L
  | or_indHL
  | or_A
  | cp_B
  | cp_C
  | cp_D
  | cp_E
  | cp_H
  | cp_L
  | cp_indHL
  | cp_A
  -- base opcodes 0xC0 to 0xCF
  | ret_NZ
  | pop_BC
  | jp_NZ_nn (nn : Word)
  | jp_nn (nn : Word)
  | call_NZ_nn (nn : Word)
  | push_BC
  | add_A_n (n : Byte)
  | rst_00
  | ret_Z
  | ret
  | jp_Z_nn (nn : Word)
  | call_Z_nn (nn : Word)
  | call_nn (nn : Word)
  | adc_A_n (n : Byte)
  | rst_08
  -- base opcodes 0xD0 to 0xDF
  | ret_NC
  | pop_DE
  | jp_NC_nn (nn : Word)
  | call_NC_nn (nn : Word)
  | push_DE
  | sub_n (n : Byte)
  | rst_10
  | ret_C
  | reti
  | jp_C_nn (nn : Word)
  | call_C_nn (nn : Word)
  | sbc_A_n (n : Byte)
  | rst_18
  -- base opcodes 0xE0 to 0xEF
  | ldh_ind_n_A (n : Byte)
  | pop_HL
  | ld_indC_A
  | push_HL
  | and_n (n : Byte)
  | rst_20
  | add_SP_e (e : Byte)
  | jp_HL
  | ld_ind_nn_A (nn : Word)
  | xor_n (n : Byte)
  | rst_28
  -- base opcodes 0xF0 to 0xFF
  | ldh_A_ind_n (n : Byte)
  | pop_AF
  | ld_A_indC
  | di
  | push_AF
  | or_n (n : Byte)
  | rst_30
  | ld_HL_SPplus_e (e : Byte)
  | ld_SP_HL
  | ld_A_ind_nn (nn : Word)
  | ei
  | cp_n (n : Byte)
  | rst_38
  -- extended opcodes 0xCB 0x00 to 0x0F
  | rlc_B
  | rlc_C
  | rlc_D
  | rlc_E
  | rlc_H
  | rlc_L
  | rlc_indHL
  | rlc_A
  | rrc_B
  | rrc_C
  | rrc_D
  | rrc_E
  | rrc_H
  | rrc_L
  | rrc_indHL
  | rrc_A
  -- extended opcodes 0xCB 0x10 to 0x1F
  | rl_B
  | rl_C
  | rl_D
  | rl_E
  | rl_H
  | rl_L
  | rl_indHL
  | rl_A
  | rr_B
  | rr_C
  | rr_D
  | rr_E
  | rr_H
  | rr_L
  | rr_indHL
  | rr_A
  -- extended opcodes 0xCB 0x20 to 0x2F
  | sla_B
  | sla_C
  | sla_D
  | sla_E
  | sla_H
  | sla_L
  | sla_indHL
  | sla_A
  | sra_B
  | sra_C
  | sra_D
  | sra_E
  | sra_H
  | sra_L
  | sra_indHL
  | sra_A
  -- extended opcodes 0xCB 0x30 to 0x3F
  | swap_B
  | swap_C
  | swap_D
  | swap_E
  | swap_H
  | swap_L
  | swap_indHL
  | swap_A
  | srl_B
  | srl_C
  | srl_D
  | srl_E
  | srl_H
  | srl_L
  | srl_indHL
  | srl_A
  -- extended opcodes 0xCB 0x40 to 0x4F
  | bit_0_B
  | bit_0_C
  | bit_0_D
  | bit_0_E
  | bit_0_H
  | bit_0_L
  | bit_0_indHL
  | bit_0_A
  | bit_1_B
  | bit_1_C
  | bit_1_D
  | bit_1_E
  | bit_1_H
  | bit_1_L
  | bit_1_indHL
  | bit_1_A
  -- extended opcodes 0xCB 0x50 to 0x5F
  | bit_2_B
  | bit_2_C
  | bit_2_D
  | bit_2_E
  | bit_2_H
  | bit_2_L
  | bit_2_indHL
  | bit_2_A
  | bit_3_B
  | bit_3_C
  | bit_3_D
  | bit_3_E
  | bit_3_H
  | bit_3_L
  | bit_3_indHL
  | bit_3_A
  -- extended opcodes 0xCB 0x60 to 0x6F
  | bit_4_B
  | bit_4_C
  | bit_4_D
  | bit_4_E
  | bit_4_H
  | bit_4_L
  | bit_4_indHL
  | bit_4_A
  | bit_5_B
  | bit_5_C
  | bit_5_D
  | bit_5_E
  | bit_5_H
  | bit_5_L
  | bit_5_indHL
  | bit_5_A
  -- extended opcodes 0xCB 0x70 to 0x7F
  | bit_6_B
  | bit_6_C
  | bit_6_D
  | bit_6_E
  | bit_6_H
  | bit_6_L
  | bit_6_indHL
  | bit_6_A
  | bit_7_B
  | bit_7_C
  | bit_7_D
  | bit_7_E
  | bit_7_H
  | bit_7_L
  | bit_7_indHL
  | bit_7_A
  -- extended opcodes 0xCB 0x80 to 0x8F
  | res_0_B
  | res_0_C
  | res_0_D
  | res_0_E
  | res_0_H
  | res_0_L
  | res_0_indHL
  | res_0_A
  | res_1_B
  | res_1_C
  | res_1_D
  | res_1_E
  | res_1_H
  | res_1_L
  | res_1_indHL
  | res_1_A
  -- extended opcodes 0xCB 0x90 to 0x9F
  | res_2_B
  | res_2_C
  | res_2_D
  | res_2_E
  | res_2_H
  | res_2_L
  | res_2_indHL
  | res_2_A
  | res_3_B
  | res_3_C
  | res_3_D
  | res_3_E
  | res_3_H
  | res_3_L
  | res_3_indHL
  | res_3_A
  -- extended opcodes 0xCB 0xA0 to 0xAF
  | res_4_B
  | res_4_C
  | res_4_D
  | res_4_E
  | res_4_H
  | res_4_L
  | res_4_indHL
  | res_4_A
  | res_5_B
  | res_5_C
  | res_5_D
  | res_5_E
  | res_5_H
  | res_5_L
  | res_5_indHL
  | res_5_A
  -- extended opcodes 0xCB 0xB0 to 0xBF
  | res_6_B
  | res_6_C
  | res_6_D
  | res_6_E
  | res_6_H
  | res_6_L
  | res_6_indHL
  | res_6_A
  | res_7_B
  | res_7_C
  | res_7_D
  | res_7_E
  | res_7_H
  | res_7_L
  | res_7_indHL
  | res_7_A
  -- extended opcodes 0xCB 0xC0 to 0xCF
  | set_0_B
  | set_0_C
  | set_0_D
  | set_0_E
  | set_0_H
  | set_0_L
  | set_0_indHL
  | set_0_A
  | set_1_B
  | set_1_C
  | set_1_D
  | set_1_E
  | set_1_H
  | set_1_L
  | set_1_indHL
  | set_1_A
  -- extended opcodes 0xCB 0xD0 to 0xDF
  | set_2_B
  | set_2_C
  | set_2_D
  | set_2_E
  | set_2_H
  | set_2_L
  | set_2_indHL
  | set_2_A
  | set_3_B
  | set_3_C
  | set_3_D
  | set_3_E
  | set_3_H
  | set_3_L
  | set_3_indHL
  | set_3_A
  -- extended opcodes 0xCB 0xE0 to 0xEF
  | set_4_B
  | set_4_C
  | set_4_D
  | set_4_E
  | set_4_H
  | set_4_L
  | set_4_indHL
  | set_4_A
  | set_5_B
  | set_5_C
  | set_5_D
  | set_5_E
  | set_5_H
  | set_5_L
  | set_5_indHL
  | set_5_A
  -- extended opcodes 0xCB 0xF0 to 0xFF
  | set_6_B
  | set_6_C
  | set_6_D
  | set_6_E
  | set_6_H
  | set_6_L
  | set_6_indHL
  | set_6_A
  | set_7_B
  | set_7_C
  | set_7_D
  | set_7_E
  | set_7_H
  | set_7_L
  | set_7_indHL
  | set_7_A
  -- the base table entries that are no instructions: the 0xCB byte (R112) and the illegal values (R102)
  | prefix_CB
  | illegal_D3
  | illegal_DB
  | illegal_DD
  | illegal_E3
  | illegal_E4
  | illegal_EB
  | illegal_EC
  | illegal_ED
  | illegal_F4
  | illegal_FC
  | illegal_FD
deriving DecidableEq, Repr

/-- `LD r,r'` (R130). -/
def Instr.ldRegReg : Reg8 → Reg8 → Instr
  | .B, .B => .ld_B_B
  | .B, .C => .ld_B_C
  | .B, .D => .ld_B_D
  | .B, .E => .ld_B_E
  | .B, .H => .ld_B_H
  | .B, .L => .ld_B_L
  | .B, .A => .ld_B_A
  | .C, .B => .ld_C_B
  | .C, .C => .ld_C_C
  | .C, .D => .ld_C_D
  | .C, .E => .ld_C_E
  | .C, .H => .ld_C_H
  | .C, .L => .ld_C_L
  | .C, .A => .ld_C_A
  | .D, .B => .ld_D_B
  | .D, .C => .ld_D_C
  | .D, .D => .ld_D_D
  | .D, .E => .ld_D_E
  | .D, .H => .ld_D_H
  | .D, .L => .ld_D_L
  | .D, .A => .ld_D_A
  | .E, .B => .ld_E_B
  | .E, .C => .ld_E_C
  | .E, .D => .ld_E_D
  | .E, .E => .ld_E_E
  | .E, .H => .ld_E_H
  | .E, .L => .ld_E_L
  | .E, .A => .ld_E_A
  | .H, .B => .ld_H_B
  | .H, .C => .ld_H_C
  | .H, .D => .ld_H_D
  | .H, .E => .ld_H_E
  | .H, .H => .ld_H_H
  | .H, .L => .ld_H_L
  | .H, .A => .ld_H_A
  | .L, .B => .ld_L_B
  | .L, .C => .ld_L_C
  | .L, .D => .ld_L_D
  | .L, .E => .ld_L_E
  | .L, .H => .ld_L_H
  | .L, .L => .ld_L_L
  | .L, .A => .ld_L_A
  | .A, .B => .ld_A_B
  | .A, .C => .ld_A_C
  | .A, .D => .ld_A_D
  | .A, .E => .ld_A_E
  | .A, .H => .ld_A_H
  | .A, .L => .ld_A_L
  | .A, .A => .ld_A_A

/-- `LD r,(HL)` (R131). -/
def Instr.ldRegIndHL : Reg8 → Instr
  | .B => .ld_B_indHL
  | .C => .ld_C_indHL
  | .D => .ld_D_indHL
  | .E => .ld_E_indHL
  | .H => .ld_H_indHL
  | .L => .ld_L_indHL
  | .A => .ld_A_indHL

/-- `LD (HL),r` (R132). -/
def Instr.ldIndHLReg : Reg8 → Instr
  | .B => .ld_indHL_B
  | .C => .ld_indHL_C
  | .D => .ld_indHL_D
  | .E => .ld_indHL_E
  | .H => .ld_indHL_H
  | .L => .ld_indHL_L
  | .A => .ld_indHL_A

/-- `LD r,n` (R133) and `LD (HL),n` (R134). -/
def Instr.ldImm : Operand8 → Byte → Instr
  | .reg .B, n => .ld_B_n n
  | .reg .C, n => .ld_C_n n
  | .reg .D, n => .ld_D_n n
  | .reg .E, n => .ld_E_n n
  | .reg .H, n => .ld_H_n n
  | .reg .L, n => .ld_L_n n
  | .reg .A, n => .ld_A_n n
  | .indHL, n => .ld_indHL_n n

/-- `LD rr,nn` (R147). -/
def Instr.ldPairImm : Reg16 → Word → Instr
  | .BC, nn => .ld_BC_nn nn
  | .DE, nn => .ld_DE_nn nn
  | .HL, nn => .ld_HL_nn nn
  | .SP, nn => .ld_SP_nn nn

/-- The accumulator operation `op` on the source `s` (R171 to R179). -/
def Instr.alu : AluOp → AluSource → Instr
  | .add, .reg .B => .add_A_B
  | .add, .reg .C => .add_A_C
  | .add, .reg .D => .add_A_D
  | .add, .reg .E => .add_A_E
  | .add, .reg .H => .add_A_H
  | .add, .reg .L => .add_A_L
  | .add, .reg .A => .add_A_A
  | .add, .indHL => .add_A_indHL
  | .add, .imm n => .add_A_n n
  | .adc, .reg .B => .adc_A_B
  | .adc, .reg .C => .adc_A_C
  | .adc, .reg .D => .adc_A_D
  | .adc, .reg .E => .adc_A_E
  | .adc, .reg .H => .adc_A_H
  | .adc, .reg .L => .adc_A_L
  | .adc, .reg .A => .adc_A_A
  | .adc, .indHL => .adc_A_indHL
  | .adc, .imm n => .adc_A_n n
  | .sub, .reg .B => .sub_B
  | .sub, .reg .C => .sub_C
  | .sub, .reg .D => .sub_D
  | .sub, .reg .E => .sub_E
  | .sub, .reg .H => .sub_H
  | .sub, .reg .L => .sub_L
  | .sub, .reg .A => .sub_A
  | .sub, .indHL => .sub_indHL
  | .sub, .imm n => .sub_n n
  | .sbc, .reg .B => .sbc_A_B
  | .sbc, .reg .C => .sbc_A_C
  | .sbc, .reg .D => .sbc_A_D
  | .sbc, .reg .E => .sbc_A_E
  | .sbc, .reg .H => .sbc_A_H
  | .sbc, .reg .L => .sbc_A_L
  | .sbc, .reg .A => .sbc_A_A
  | .sbc, .indHL => .sbc_A_indHL
  | .sbc, .imm n => .sbc_A_n n
  | .and, .reg .B => .and_B
  | .and, .reg .C => .and_C
  | .and, .reg .D => .and_D
  | .and, .reg .E => .and_E
  | .and, .reg .H => .and_H
  | .and, .reg .L => .and_L
  | .and, .reg .A => .and_A
  | .and, .indHL => .and_indHL
  | .and, .imm n => .and_n n
  | .xor, .reg .B => .xor_B
  | .xor, .reg .C => .xor_C
  | .xor, .reg .D => .xor_D
  | .xor, .reg .E => .xor_E
  | .xor, .reg .H => .xor_H
  | .xor, .reg .L => .xor_L
  | .xor, .reg .A => .xor_A
  | .xor, .indHL => .xor_indHL
  | .xor, .imm n => .xor_n n
  | .or, .reg .B => .or_B
  | .or, .reg .C => .or_C
  | .or, .reg .D => .or_D
  | .or, .reg .E => .or_E
  | .or, .reg .H => .or_H
  | .or, .reg .L => .or_L
  | .or, .reg .A => .or_A
  | .or, .indHL => .or_indHL
  | .or, .imm n => .or_n n
  | .cp, .reg .B => .cp_B
  | .cp, .reg .C => .cp_C
  | .cp, .reg .D => .cp_D
  | .cp, .reg .E => .cp_E
  | .cp, .reg .H => .cp_H
  | .cp, .reg .L => .cp_L
  | .cp, .reg .A => .cp_A
  | .cp, .indHL => .cp_indHL
  | .cp, .imm n => .cp_n n

/-- `INC r` and `INC (HL)` (R180, R181). -/
def Instr.inc8 : Operand8 → Instr
  | .reg .B => .inc_B
  | .reg .C => .inc_C
  | .reg .D => .inc_D
  | .reg .E => .inc_E
  | .reg .H => .inc_H
  | .reg .L => .inc_L
  | .reg .A => .inc_A
  | .indHL => .inc_indHL

/-- `DEC r` and `DEC (HL)` (R182, R183). -/
def Instr.dec8 : Operand8 → Instr
  | .reg .B => .dec_B
  | .reg .C => .dec_C
  | .reg .D => .dec_D
  | .reg .E => .dec_E
  | .reg .H => .dec_H
  | .reg .L => .dec_L
  | .reg .A => .dec_A
  | .indHL => .dec_indHL

/-- `ADD HL,rr` (R201). -/
def Instr.addHL : Reg16 → Instr
  | .BC => .add_HL_BC
  | .DE => .add_HL_DE
  | .HL => .add_HL_HL
  | .SP => .add_HL_SP

/-- `INC rr` (R204). -/
def Instr.inc16 : Reg16 → Instr
  | .BC => .inc_BC
  | .DE => .inc_DE
  | .HL => .inc_HL
  | .SP => .inc_SP

/-- `DEC rr` (R205). -/
def Instr.dec16 : Reg16 → Instr
  | .BC => .dec_BC
  | .DE => .dec_DE
  | .HL => .dec_HL
  | .SP => .dec_SP

/-- `RLCA`, `RRCA`, `RLA`, `RRA` (R220 to R223). -/
def Instr.accRotate : AccRotate → Instr
  | .rlca => .rlca
  | .rrca => .rrca
  | .rla => .rla
  | .rra => .rra

/-- The extended rotate or shift `op` of an operand (R225 to R232). -/
def Instr.shift : ShiftOp → Operand8 → Instr
  | .rlc, .reg .B => .rlc_B
  | .rlc, .reg .C => .rlc_C
  | .rlc, .reg .D => .rlc_D
  | .rlc, .reg .E => .rlc_E
  | .rlc, .reg .H => .rlc_H
  | .rlc, .reg .L => .rlc_L
  | .rlc, .reg .A => .rlc_A
  | .rlc, .indHL => .rlc_indHL
  | .rrc, .reg .B => .rrc_B
  | .rrc, .reg .C => .rrc_C
  | .rrc, .reg .D => .rrc_D
  | .rrc, .reg .E => .rrc_E
  | .rrc, .reg .H => .rrc_H
  | .rrc, .reg .L => .rrc_L
  | .rrc, .reg .A => .rrc_A
  | .rrc, .indHL => .rrc_indHL
  | .rl, .reg .B => .rl_B
  | .rl, .reg .C => .rl_C
  | .rl, .reg .D => .rl_D
  | .rl, .reg .E => .rl_E
  | .rl, .reg .H => .rl_H
  | .rl, .reg .L => .rl_L
  | .rl, .reg .A => .rl_A
  | .rl, .indHL => .rl_indHL
  | .rr, .reg .B => .rr_B
  | .rr, .reg .C => .rr_C
  | .rr, .reg .D => .rr_D
  | .rr, .reg .E => .rr_E
  | .rr, .reg .H => .rr_H
  | .rr, .reg .L => .rr_L
  | .rr, .reg .A => .rr_A
  | .rr, .indHL => .rr_indHL
  | .sla, .reg .B => .sla_B
  | .sla, .reg .C => .sla_C
  | .sla, .reg .D => .sla_D
  | .sla, .reg .E => .sla_E
  | .sla, .reg .H => .sla_H
  | .sla, .reg .L => .sla_L
  | .sla, .reg .A => .sla_A
  | .sla, .indHL => .sla_indHL
  | .sra, .reg .B => .sra_B
  | .sra, .reg .C => .sra_C
  | .sra, .reg .D => .sra_D
  | .sra, .reg .E => .sra_E
  | .sra, .reg .H => .sra_H
  | .sra, .reg .L => .sra_L
  | .sra, .reg .A => .sra_A
  | .sra, .indHL => .sra_indHL
  | .swap, .reg .B => .swap_B
  | .swap, .reg .C => .swap_C
  | .swap, .reg .D => .swap_D
  | .swap, .reg .E => .swap_E
  | .swap, .reg .H => .swap_H
  | .swap, .reg .L => .swap_L
  | .swap, .reg .A => .swap_A
  | .swap, .indHL => .swap_indHL
  | .srl, .reg .B => .srl_B
  | .srl, .reg .C => .srl_C
  | .srl, .reg .D => .srl_D
  | .srl, .reg .E => .srl_E
  | .srl, .reg .H => .srl_H
  | .srl, .reg .L => .srl_L
  | .srl, .reg .A => .srl_A
  | .srl, .indHL => .srl_indHL

/-- `BIT b,r` and `BIT b,(HL)` (R250). -/
def Instr.bit : Fin 8 → Operand8 → Instr
  | 0, .reg .B => .bit_0_B
  | 0, .reg .C => .bit_0_C
  | 0, .reg .D => .bit_0_D
  | 0, .reg .E => .bit_0_E
  | 0, .reg .H => .bit_0_H
  | 0, .reg .L => .bit_0_L
  | 0, .reg .A => .bit_0_A
  | 0, .indHL => .bit_0_indHL
  | 1, .reg .B => .bit_1_B
  | 1, .reg .C => .bit_1_C
  | 1, .reg .D => .bit_1_D
  | 1, .reg .E => .bit_1_E
  | 1, .reg .H => .bit_1_H
  | 1, .reg .L => .bit_1_L
  | 1, .reg .A => .bit_1_A
  | 1, .indHL => .bit_1_indHL
  | 2, .reg .B => .bit_2_B
  | 2, .reg .C => .bit_2_C
  | 2, .reg .D => .bit_2_D
  | 2, .reg .E => .bit_2_E
  | 2, .reg .H => .bit_2_H
  | 2, .reg .L => .bit_2_L
  | 2, .reg .A => .bit_2_A
  | 2, .indHL => .bit_2_indHL
  | 3, .reg .B => .bit_3_B
  | 3, .reg .C => .bit_3_C
  | 3, .reg .D => .bit_3_D
  | 3, .reg .E => .bit_3_E
  | 3, .reg .H => .bit_3_H
  | 3, .reg .L => .bit_3_L
  | 3, .reg .A => .bit_3_A
  | 3, .indHL => .bit_3_indHL
  | 4, .reg .B => .bit_4_B
  | 4, .reg .C => .bit_4_C
  | 4, .reg .D => .bit_4_D
  | 4, .reg .E => .bit_4_E
  | 4, .reg .H => .bit_4_H
  | 4, .reg .L => .bit_4_L
  | 4, .reg .A => .bit_4_A
  | 4, .indHL => .bit_4_indHL
  | 5, .reg .B => .bit_5_B
  | 5, .reg .C => .bit_5_C
  | 5, .reg .D => .bit_5_D
  | 5, .reg .E => .bit_5_E
  | 5, .reg .H => .bit_5_H
  | 5, .reg .L => .bit_5_L
  | 5, .reg .A => .bit_5_A
  | 5, .indHL => .bit_5_indHL
  | 6, .reg .B => .bit_6_B
  | 6, .reg .C => .bit_6_C
  | 6, .reg .D => .bit_6_D
  | 6, .reg .E => .bit_6_E
  | 6, .reg .H => .bit_6_H
  | 6, .reg .L => .bit_6_L
  | 6, .reg .A => .bit_6_A
  | 6, .indHL => .bit_6_indHL
  | 7, .reg .B => .bit_7_B
  | 7, .reg .C => .bit_7_C
  | 7, .reg .D => .bit_7_D
  | 7, .reg .E => .bit_7_E
  | 7, .reg .H => .bit_7_H
  | 7, .reg .L => .bit_7_L
  | 7, .reg .A => .bit_7_A
  | 7, .indHL => .bit_7_indHL

/-- `RES b,r` and `RES b,(HL)` (R251). -/
def Instr.res : Fin 8 → Operand8 → Instr
  | 0, .reg .B => .res_0_B
  | 0, .reg .C => .res_0_C
  | 0, .reg .D => .res_0_D
  | 0, .reg .E => .res_0_E
  | 0, .reg .H => .res_0_H
  | 0, .reg .L => .res_0_L
  | 0, .reg .A => .res_0_A
  | 0, .indHL => .res_0_indHL
  | 1, .reg .B => .res_1_B
  | 1, .reg .C => .res_1_C
  | 1, .reg .D => .res_1_D
  | 1, .reg .E => .res_1_E
  | 1, .reg .H => .res_1_H
  | 1, .reg .L => .res_1_L
  | 1, .reg .A => .res_1_A
  | 1, .indHL => .res_1_indHL
  | 2, .reg .B => .res_2_B
  | 2, .reg .C => .res_2_C
  | 2, .reg .D => .res_2_D
  | 2, .reg .E => .res_2_E
  | 2, .reg .H => .res_2_H
  | 2, .reg .L => .res_2_L
  | 2, .reg .A => .res_2_A
  | 2, .indHL => .res_2_indHL
  | 3, .reg .B => .res_3_B
  | 3, .reg .C => .res_3_C
  | 3, .reg .D => .res_3_D
  | 3, .reg .E => .res_3_E
  | 3, .reg .H => .res_3_H
  | 3, .reg .L => .res_3_L
  | 3, .reg .A => .res_3_A
  | 3, .indHL => .res_3_indHL
  | 4, .reg .B => .res_4_B
  | 4, .reg .C => .res_4_C
  | 4, .reg .D => .res_4_D
  | 4, .reg .E => .res_4_E
  | 4, .reg .H => .res_4_H
  | 4, .reg .L => .res_4_L
  | 4, .reg .A => .res_4_A
  | 4, .indHL => .res_4_indHL
  | 5, .reg .B => .res_5_B
  | 5, .reg .C => .res_5_C
  | 5, .reg .D => .res_5_D
  | 5, .reg .E => .res_5_E
  | 5, .reg .H => .res_5_H
  | 5, .reg .L => .res_5_L
  | 5, .reg .A => .res_5_A
  | 5, .indHL => .res_5_indHL
  | 6, .reg .B => .res_6_B
  | 6, .reg .C => .res_6_C
  | 6, .reg .D => .res_6_D
  | 6, .reg .E => .res_6_E
  | 6, .reg .H => .res_6_H
  | 6, .reg .L => .res_6_L
  | 6, .reg .A => .res_6_A
  | 6, .indHL => .res_6_indHL
  | 7, .reg .B => .res_7_B
  | 7, .reg .C => .res_7_C
  | 7, .reg .D => .res_7_D
  | 7, .reg .E => .res_7_E
  | 7, .reg .H => .res_7_H
  | 7, .reg .L => .res_7_L
  | 7, .reg .A => .res_7_A
  | 7, .indHL => .res_7_indHL

/-- `SET b,r` and `SET b,(HL)` (R252). -/
def Instr.set : Fin 8 → Operand8 → Instr
  | 0, .reg .B => .set_0_B
  | 0, .reg .C => .set_0_C
  | 0, .reg .D => .set_0_D
  | 0, .reg .E => .set_0_E
  | 0, .reg .H => .set_0_H
  | 0, .reg .L => .set_0_L
  | 0, .reg .A => .set_0_A
  | 0, .indHL => .set_0_indHL
  | 1, .reg .B => .set_1_B
  | 1, .reg .C => .set_1_C
  | 1, .reg .D => .set_1_D
  | 1, .reg .E => .set_1_E
  | 1, .reg .H => .set_1_H
  | 1, .reg .L => .set_1_L
  | 1, .reg .A => .set_1_A
  | 1, .indHL => .set_1_indHL
  | 2, .reg .B => .set_2_B
  | 2, .reg .C => .set_2_C
  | 2, .reg .D => .set_2_D
  | 2, .reg .E => .set_2_E
  | 2, .reg .H => .set_2_H
  | 2, .reg .L => .set_2_L
  | 2, .reg .A => .set_2_A
  | 2, .indHL => .set_2_indHL
  | 3, .reg .B => .set_3_B
  | 3, .reg .C => .set_3_C
  | 3, .reg .D => .set_3_D
  | 3, .reg .E => .set_3_E
  | 3, .reg .H => .set_3_H
  | 3, .reg .L => .set_3_L
  | 3, .reg .A => .set_3_A
  | 3, .indHL => .set_3_indHL
  | 4, .reg .B => .set_4_B
  | 4, .reg .C => .set_4_C
  | 4, .reg .D => .set_4_D
  | 4, .reg .E => .set_4_E
  | 4, .reg .H => .set_4_H
  | 4, .reg .L => .set_4_L
  | 4, .reg .A => .set_4_A
  | 4, .indHL => .set_4_indHL
  | 5, .reg .B => .set_5_B
  | 5, .reg .C => .set_5_C
  | 5, .reg .D => .set_5_D
  | 5, .reg .E => .set_5_E
  | 5, .reg .H => .set_5_H
  | 5, .reg .L => .set_5_L
  | 5, .reg .A => .set_5_A
  | 5, .indHL => .set_5_indHL
  | 6, .reg .B => .set_6_B
  | 6, .reg .C => .set_6_C
  | 6, .reg .D => .set_6_D
  | 6, .reg .E => .set_6_E
  | 6, .reg .H => .set_6_H
  | 6, .reg .L => .set_6_L
  | 6, .reg .A => .set_6_A
  | 6, .indHL => .set_6_indHL
  | 7, .reg .B => .set_7_B
  | 7, .reg .C => .set_7_C
  | 7, .reg .D => .set_7_D
  | 7, .reg .E => .set_7_E
  | 7, .reg .H => .set_7_H
  | 7, .reg .L => .set_7_L
  | 7, .reg .A => .set_7_A
  | 7, .indHL => .set_7_indHL

/-- `JP cc,nn` (R262). -/
def Instr.jpCond : Cond → Word → Instr
  | .NZ, nn => .jp_NZ_nn nn
  | .Z, nn => .jp_Z_nn nn
  | .NC, nn => .jp_NC_nn nn
  | .C, nn => .jp_C_nn nn

/-- `JR cc,e` (R265). -/
def Instr.jrCond : Cond → Byte → Instr
  | .NZ, e => .jr_NZ_e e
  | .Z, e => .jr_Z_e e
  | .NC, e => .jr_NC_e e
  | .C, e => .jr_C_e e

/-- `CALL cc,nn` (R267). -/
def Instr.callCond : Cond → Word → Instr
  | .NZ, nn => .call_NZ_nn nn
  | .Z, nn => .call_Z_nn nn
  | .NC, nn => .call_NC_nn nn
  | .C, nn => .call_C_nn nn

/-- `RET cc` (R269). -/
def Instr.retCond : Cond → Instr
  | .NZ => .ret_NZ
  | .Z => .ret_Z
  | .NC => .ret_NC
  | .C => .ret_C

/-- `RST t` for `t = 8·y` (R271). -/
def Instr.rst : Fin 8 → Instr
  | 0 => .rst_00
  | 1 => .rst_08
  | 2 => .rst_10
  | 3 => .rst_18
  | 4 => .rst_20
  | 5 => .rst_28
  | 6 => .rst_30
  | 7 => .rst_38

/-- `PUSH qq` (R292). -/
def Instr.push : Pair → Instr
  | .BC => .push_BC
  | .DE => .push_DE
  | .HL => .push_HL
  | .AF => .push_AF

/-- `POP qq` (R293, R294). -/
def Instr.pop : Pair → Instr
  | .BC => .pop_BC
  | .DE => .pop_DE
  | .HL => .pop_HL
  | .AF => .pop_AF

/-- The illegal row with that opcode value (R102). -/
def Instr.illegal : IllegalRow → Instr
  | .D3 => .illegal_D3
  | .DB => .illegal_DB
  | .DD => .illegal_DD
  | .E3 => .illegal_E3
  | .E4 => .illegal_E4
  | .EB => .illegal_EB
  | .EC => .illegal_EC
  | .ED => .illegal_ED
  | .F4 => .illegal_F4
  | .FC => .illegal_FC
  | .FD => .illegal_FD

end Sys2Proof
end

