-- ==== Sys2Proof/WellFormed.lean ====
section
/-! DEFINITION. Which terms of Instr are whole instructions. Every field of a constructor is a Byte or a Word, so no
operand can be out of range; the one ill-formed term is the bare 0xCB byte, which is a table entry and not an instruction
(R100 counts "244 instructions, the prefix 0xCB and 11 illegal values"; R112: it "has no effect of its own"). -/

namespace Sys2Proof

/-- Whether a term is a whole instruction (or an illegal opcode value): everything but the bare 0xCB byte (R100, R112). -/
def Instr.isWhole : Instr → Bool
  | .prefix_CB => false
  | _ => true

/-- A well-formed instruction: what a whole run of bytes decodes to. -/
abbrev Instr.WellFormed (i : Instr) : Prop := i.isWhole = true

end Sys2Proof
end

