-- ==== Sys2Proof/Decode.lean ====
section
/-! DEFINITION. The decoder and the encoder (30_encoding.md). Decoding is total on any bytes (R115): the base table is
sixteen groups of sixteen entries (R99, R100), the entry 0xCB fetches a byte of the flat extended table (R101, R112), and a
list of bytes that ends inside an instruction is rejected by name. The byte helpers of R7, R8 and R63 stand here too, so
that a repair may reach them. -/

namespace Sys2Proof

/-- `hi ++ lo` (R7): the 16-bit value with `hi` in bits 15..8. -/
def wordOf (hi lo : Byte) : Word := hi ++ lo

/-- `v[15:8]` (R7). -/
def hiByte (v : Word) : Byte := v.extractLsb' 8 8

/-- `v[7:0]` (R7). -/
def loByte (v : Word) : Byte := v.extractLsb' 0 8

/-- `sext_16(v)` (R8). -/
def sext16 (v : Byte) : Word := v.signExtend 16

/-- One entry of the base table: an instruction and the immediates it fetches (R90, R96), or the 0xCB entry, which
signals that a byte of the extended table follows (R99). -/
inductive Entry where
  /-- a one-byte instruction -/
  | op (i : Instr)
  /-- an instruction with one byte after the opcode -/
  | opByte (i : Byte → Instr)
  /-- an instruction with a 16-bit immediate after the opcode, low byte first -/
  | opWord (i : Word → Instr)
  /-- the 0xCB entry -/
  | extended

/-- Group handler 0: the base opcodes 0x00 to 0x0F by low nibble (R100). -/
def baseGroup0 : Nat → Entry
  | 0x0 => .op .nop
  | 0x1 => .opWord .ld_BC_nn
  | 0x2 => .op .ld_indBC_A
  | 0x3 => .op .inc_BC
  | 0x4 => .op .inc_B
  | 0x5 => .op .dec_B
  | 0x6 => .opByte .ld_B_n
  | 0x7 => .op .rlca
  | 0x8 => .opWord .ld_ind_nn_SP
  | 0x9 => .op .add_HL_BC
  | 0xA => .op .ld_A_indBC
  | 0xB => .op .dec_BC
  | 0xC => .op .inc_C
  | 0xD => .op .dec_C
  | 0xE => .opByte .ld_C_n
  | _ => .op .rrca

/-- Group handler 1: the base opcodes 0x10 to 0x1F by low nibble (R100). -/
def baseGroup1 : Nat → Entry
  | 0x0 => .opByte .stop
  | 0x1 => .opWord .ld_DE_nn
  | 0x2 => .op .ld_indDE_A
  | 0x3 => .op .inc_DE
  | 0x4 => .op .inc_D
  | 0x5 => .op .dec_D
  | 0x6 => .opByte .ld_D_n
  | 0x7 => .op .rla
  | 0x8 => .opByte .jr_e
  | 0x9 => .op .add_HL_DE
  | 0xA => .op .ld_A_indDE
  | 0xB => .op .dec_DE
  | 0xC => .op .inc_E
  | 0xD => .op .dec_E
  | 0xE => .opByte .ld_E_n
  | _ => .op .rra

/-- Group handler 2: the base opcodes 0x20 to 0x2F by low nibble (R100). -/
def baseGroup2 : Nat → Entry
  | 0x0 => .opByte .jr_NZ_e
  | 0x1 => .opWord .ld_HL_nn
  | 0x2 => .op .ld_indHLI_A
  | 0x3 => .op .inc_HL
  | 0x4 => .op .inc_H
  | 0x5 => .op .dec_H
  | 0x6 => .opByte .ld_H_n
  | 0x7 => .op .daa
  | 0x8 => .opByte .jr_Z_e
  | 0x9 => .op .add_HL_HL
  | 0xA => .op .ld_A_indHLI
  | 0xB => .op .dec_HL
  | 0xC => .op .inc_L
  | 0xD => .op .dec_L
  | 0xE => .opByte .ld_L_n
  | _ => .op .cpl

/-- Group handler 3: the base opcodes 0x30 to 0x3F by low nibble (R100). -/
def baseGroup3 : Nat → Entry
  | 0x0 => .opByte .jr_NC_e
  | 0x1 => .opWord .ld_SP_nn
  | 0x2 => .op .ld_indHLD_A
  | 0x3 => .op .inc_SP
  | 0x4 => .op .inc_indHL
  | 0x5 => .op .dec_indHL
  | 0x6 => .opByte .ld_indHL_n
  | 0x7 => .op .scf
  | 0x8 => .opByte .jr_C_e
  | 0x9 => .op .add_HL_SP
  | 0xA => .op .ld_A_indHLD
  | 0xB => .op .dec_SP
  | 0xC => .op .inc_A
  | 0xD => .op .dec_A
  | 0xE => .opByte .ld_A_n
  | _ => .op .ccf

/-- Group handler 4: the base opcodes 0x40 to 0x4F by low nibble (R100). -/
def baseGroup4 : Nat → Entry
  | 0x0 => .op .ld_B_B
  | 0x1 => .op .ld_B_C
  | 0x2 => .op .ld_B_D
  | 0x3 => .op .ld_B_E
  | 0x4 => .op .ld_B_H
  | 0x5 => .op .ld_B_L
  | 0x6 => .op .ld_B_indHL
  | 0x7 => .op .ld_B_A
  | 0x8 => .op .ld_C_B
  | 0x9 => .op .ld_C_C
  | 0xA => .op .ld_C_D
  | 0xB => .op .ld_C_E
  | 0xC => .op .ld_C_H
  | 0xD => .op .ld_C_L
  | 0xE => .op .ld_C_indHL
  | _ => .op .ld_C_A

/-- Group handler 5: the base opcodes 0x50 to 0x5F by low nibble (R100). -/
def baseGroup5 : Nat → Entry
  | 0x0 => .op .ld_D_B
  | 0x1 => .op .ld_D_C
  | 0x2 => .op .ld_D_D
  | 0x3 => .op .ld_D_E
  | 0x4 => .op .ld_D_H
  | 0x5 => .op .ld_D_L
  | 0x6 => .op .ld_D_indHL
  | 0x7 => .op .ld_D_A
  | 0x8 => .op .ld_E_B
  | 0x9 => .op .ld_E_C
  | 0xA => .op .ld_E_D
  | 0xB => .op .ld_E_E
  | 0xC => .op .ld_E_H
  | 0xD => .op .ld_E_L
  | 0xE => .op .ld_E_indHL
  | _ => .op .ld_E_A

/-- Group handler 6: the base opcodes 0x60 to 0x6F by low nibble (R100). -/
def baseGroup6 : Nat → Entry
  | 0x0 => .op .ld_H_B
  | 0x1 => .op .ld_H_C
  | 0x2 => .op .ld_H_D
  | 0x3 => .op .ld_H_E
  | 0x4 => .op .ld_H_H
  | 0x5 => .op .ld_H_L
  | 0x6 => .op .ld_H_indHL
  | 0x7 => .op .ld_H_A
  | 0x8 => .op .ld_L_B
  | 0x9 => .op .ld_L_C
  | 0xA => .op .ld_L_D
  | 0xB => .op .ld_L_E
  | 0xC => .op .ld_L_H
  | 0xD => .op .ld_L_L
  | 0xE => .op .ld_L_indHL
  | _ => .op .ld_L_A

/-- Group handler 7: the base opcodes 0x70 to 0x7F by low nibble (R100). -/
def baseGroup7 : Nat → Entry
  | 0x0 => .op .ld_indHL_B
  | 0x1 => .op .ld_indHL_C
  | 0x2 => .op .ld_indHL_D
  | 0x3 => .op .ld_indHL_E
  | 0x4 => .op .ld_indHL_H
  | 0x5 => .op .ld_indHL_L
  | 0x6 => .op .halt
  | 0x7 => .op .ld_indHL_A
  | 0x8 => .op .ld_A_B
  | 0x9 => .op .ld_A_C
  | 0xA => .op .ld_A_D
  | 0xB => .op .ld_A_E
  | 0xC => .op .ld_A_H
  | 0xD => .op .ld_A_L
  | 0xE => .op .ld_A_indHL
  | _ => .op .ld_A_A

/-- Group handler 8: the base opcodes 0x80 to 0x8F by low nibble (R100). -/
def baseGroup8 : Nat → Entry
  | 0x0 => .op .add_A_B
  | 0x1 => .op .add_A_C
  | 0x2 => .op .add_A_D
  | 0x3 => .op .add_A_E
  | 0x4 => .op .add_A_H
  | 0x5 => .op .add_A_L
  | 0x6 => .op .add_A_indHL
  | 0x7 => .op .add_A_A
  | 0x8 => .op .adc_A_B
  | 0x9 => .op .adc_A_C
  | 0xA => .op .adc_A_D
  | 0xB => .op .adc_A_E
  | 0xC => .op .adc_A_H
  | 0xD => .op .adc_A_L
  | 0xE => .op .adc_A_indHL
  | _ => .op .adc_A_A

/-- Group handler 9: the base opcodes 0x90 to 0x9F by low nibble (R100). -/
def baseGroup9 : Nat → Entry
  | 0x0 => .op .sub_B
  | 0x1 => .op .sub_C
  | 0x2 => .op .sub_D
  | 0x3 => .op .sub_E
  | 0x4 => .op .sub_H
  | 0x5 => .op .sub_L
  | 0x6 => .op .sub_indHL
  | 0x7 => .op .sub_A
  | 0x8 => .op .sbc_A_B
  | 0x9 => .op .sbc_A_C
  | 0xA => .op .sbc_A_D
  | 0xB => .op .sbc_A_E
  | 0xC => .op .sbc_A_H
  | 0xD => .op .sbc_A_L
  | 0xE => .op .sbc_A_indHL
  | _ => .op .sbc_A_A

/-- Group handler A: the base opcodes 0xA0 to 0xAF by low nibble (R100). -/
def baseGroupA : Nat → Entry
  | 0x0 => .op .and_B
  | 0x1 => .op .and_C
  | 0x2 => .op .and_D
  | 0x3 => .op .and_E
  | 0x4 => .op .and_H
  | 0x5 => .op .and_L
  | 0x6 => .op .and_indHL
  | 0x7 => .op .and_A
  | 0x8 => .op .xor_B
  | 0x9 => .op .xor_C
  | 0xA => .op .xor_D
  | 0xB => .op .xor_E
  | 0xC => .op .xor_H
  | 0xD => .op .xor_L
  | 0xE => .op .xor_indHL
  | _ => .op .xor_A

/-- Group handler B: the base opcodes 0xB0 to 0xBF by low nibble (R100). -/
def baseGroupB : Nat → Entry
  | 0x0 => .op .or_B
  | 0x1 => .op .or_C
  | 0x2 => .op .or_D
  | 0x3 => .op .or_E
  | 0x4 => .op .or_H
  | 0x5 => .op .or_L
  | 0x6 => .op .or_indHL
  | 0x7 => .op .or_A
  | 0x8 => .op .cp_B
  | 0x9 => .op .cp_C
  | 0xA => .op .cp_D
  | 0xB => .op .cp_E
  | 0xC => .op .cp_H
  | 0xD => .op .cp_L
  | 0xE => .op .cp_indHL
  | _ => .op .cp_A

/-- Group handler C: the base opcodes 0xC0 to 0xCF by low nibble (R100). -/
def baseGroupC : Nat → Entry
  | 0x0 => .op .ret_NZ
  | 0x1 => .op .pop_BC
  | 0x2 => .opWord .jp_NZ_nn
  | 0x3 => .opWord .jp_nn
  | 0x4 => .opWord .call_NZ_nn
  | 0x5 => .op .push_BC
  | 0x6 => .opByte .add_A_n
  | 0x7 => .op .rst_00
  | 0x8 => .op .ret_Z
  | 0x9 => .op .ret
  | 0xA => .opWord .jp_Z_nn
  | 0xB => .extended
  | 0xC => .opWord .call_Z_nn
  | 0xD => .opWord .call_nn
  | 0xE => .opByte .adc_A_n
  | _ => .op .rst_08

/-- Group handler D: the base opcodes 0xD0 to 0xDF by low nibble (R100). -/
def baseGroupD : Nat → Entry
  | 0x0 => .op .ret_NC
  | 0x1 => .op .pop_DE
  | 0x2 => .opWord .jp_NC_nn
  | 0x3 => .op .illegal_D3
  | 0x4 => .opWord .call_NC_nn
  | 0x5 => .op .push_DE
  | 0x6 => .opByte .sub_n
  | 0x7 => .op .rst_10
  | 0x8 => .op .ret_C
  | 0x9 => .op .reti
  | 0xA => .opWord .jp_C_nn
  | 0xB => .op .illegal_DB
  | 0xC => .opWord .call_C_nn
  | 0xD => .op .illegal_DD
  | 0xE => .opByte .sbc_A_n
  | _ => .op .rst_18

/-- Group handler E: the base opcodes 0xE0 to 0xEF by low nibble (R100). -/
def baseGroupE : Nat → Entry
  | 0x0 => .opByte .ldh_ind_n_A
  | 0x1 => .op .pop_HL
  | 0x2 => .op .ld_indC_A
  | 0x3 => .op .illegal_E3
  | 0x4 => .op .illegal_E4
  | 0x5 => .op .push_HL
  | 0x6 => .opByte .and_n
  | 0x7 => .op .rst_20
  | 0x8 => .opByte .add_SP_e
  | 0x9 => .op .jp_HL
  | 0xA => .opWord .ld_ind_nn_A
  | 0xB => .op .illegal_EB
  | 0xC => .op .illegal_EC
  | 0xD => .op .illegal_ED
  | 0xE => .opByte .xor_n
  | _ => .op .rst_28

/-- Group handler F: the base opcodes 0xF0 to 0xFF by low nibble (R100). -/
def baseGroupF : Nat → Entry
  | 0x0 => .opByte .ldh_A_ind_n
  | 0x1 => .op .pop_AF
  | 0x2 => .op .ld_A_indC
  | 0x3 => .op .di
  | 0x4 => .op .illegal_F4
  | 0x5 => .op .push_AF
  | 0x6 => .opByte .or_n
  | 0x7 => .op .rst_30
  | 0x8 => .opByte .ld_HL_SPplus_e
  | 0x9 => .op .ld_SP_HL
  | 0xA => .opWord .ld_A_ind_nn
  | 0xB => .op .ei
  | 0xC => .op .illegal_FC
  | 0xD => .op .illegal_FD
  | 0xE => .opByte .cp_n
  | _ => .op .rst_38

/-- Row 0 of the extended table: the extended opcodes 0x00 to 0x0F by low nibble (R101). -/
def extGroup0 : Nat → Instr
  | 0x0 => .rlc_B
  | 0x1 => .rlc_C
  | 0x2 => .rlc_D
  | 0x3 => .rlc_E
  | 0x4 => .rlc_H
  | 0x5 => .rlc_L
  | 0x6 => .rlc_indHL
  | 0x7 => .rlc_A
  | 0x8 => .rrc_B
  | 0x9 => .rrc_C
  | 0xA => .rrc_D
  | 0xB => .rrc_E
  | 0xC => .rrc_H
  | 0xD => .rrc_L
  | 0xE => .rrc_indHL
  | _ => .rrc_A

/-- Row 1 of the extended table: the extended opcodes 0x10 to 0x1F by low nibble (R101). -/
def extGroup1 : Nat → Instr
  | 0x0 => .rl_B
  | 0x1 => .rl_C
  | 0x2 => .rl_D
  | 0x3 => .rl_E
  | 0x4 => .rl_H
  | 0x5 => .rl_L
  | 0x6 => .rl_indHL
  | 0x7 => .rl_A
  | 0x8 => .rr_B
  | 0x9 => .rr_C
  | 0xA => .rr_D
  | 0xB => .rr_E
  | 0xC => .rr_H
  | 0xD => .rr_L
  | 0xE => .rr_indHL
  | _ => .rr_A

/-- Row 2 of the extended table: the extended opcodes 0x20 to 0x2F by low nibble (R101). -/
def extGroup2 : Nat → Instr
  | 0x0 => .sla_B
  | 0x1 => .sla_C
  | 0x2 => .sla_D
  | 0x3 => .sla_E
  | 0x4 => .sla_H
  | 0x5 => .sla_L
  | 0x6 => .sla_indHL
  | 0x7 => .sla_A
  | 0x8 => .sra_B
  | 0x9 => .sra_C
  | 0xA => .sra_D
  | 0xB => .sra_E
  | 0xC => .sra_H
  | 0xD => .sra_L
  | 0xE => .sra_indHL
  | _ => .sra_A

/-- Row 3 of the extended table: the extended opcodes 0x30 to 0x3F by low nibble (R101). -/
def extGroup3 : Nat → Instr
  | 0x0 => .swap_B
  | 0x1 => .swap_C
  | 0x2 => .swap_D
  | 0x3 => .swap_E
  | 0x4 => .swap_H
  | 0x5 => .swap_L
  | 0x6 => .swap_indHL
  | 0x7 => .swap_A
  | 0x8 => .srl_B
  | 0x9 => .srl_C
  | 0xA => .srl_D
  | 0xB => .srl_E
  | 0xC => .srl_H
  | 0xD => .srl_L
  | 0xE => .srl_indHL
  | _ => .srl_A

/-- Row 4 of the extended table: the extended opcodes 0x40 to 0x4F by low nibble (R101). -/
def extGroup4 : Nat → Instr
  | 0x0 => .bit_0_B
  | 0x1 => .bit_0_C
  | 0x2 => .bit_0_D
  | 0x3 => .bit_0_E
  | 0x4 => .bit_0_H
  | 0x5 => .bit_0_L
  | 0x6 => .bit_0_indHL
  | 0x7 => .bit_0_A
  | 0x8 => .bit_1_B
  | 0x9 => .bit_1_C
  | 0xA => .bit_1_D
  | 0xB => .bit_1_E
  | 0xC => .bit_1_H
  | 0xD => .bit_1_L
  | 0xE => .bit_1_indHL
  | _ => .bit_1_A

/-- Row 5 of the extended table: the extended opcodes 0x50 to 0x5F by low nibble (R101). -/
def extGroup5 : Nat → Instr
  | 0x0 => .bit_2_B
  | 0x1 => .bit_2_C
  | 0x2 => .bit_2_D
  | 0x3 => .bit_2_E
  | 0x4 => .bit_2_H
  | 0x5 => .bit_2_L
  | 0x6 => .bit_2_indHL
  | 0x7 => .bit_2_A
  | 0x8 => .bit_3_B
  | 0x9 => .bit_3_C
  | 0xA => .bit_3_D
  | 0xB => .bit_3_E
  | 0xC => .bit_3_H
  | 0xD => .bit_3_L
  | 0xE => .bit_3_indHL
  | _ => .bit_3_A

/-- Row 6 of the extended table: the extended opcodes 0x60 to 0x6F by low nibble (R101). -/
def extGroup6 : Nat → Instr
  | 0x0 => .bit_4_B
  | 0x1 => .bit_4_C
  | 0x2 => .bit_4_D
  | 0x3 => .bit_4_E
  | 0x4 => .bit_4_H
  | 0x5 => .bit_4_L
  | 0x6 => .bit_4_indHL
  | 0x7 => .bit_4_A
  | 0x8 => .bit_5_B
  | 0x9 => .bit_5_C
  | 0xA => .bit_5_D
  | 0xB => .bit_5_E
  | 0xC => .bit_5_H
  | 0xD => .bit_5_L
  | 0xE => .bit_5_indHL
  | _ => .bit_5_A

/-- Row 7 of the extended table: the extended opcodes 0x70 to 0x7F by low nibble (R101). -/
def extGroup7 : Nat → Instr
  | 0x0 => .bit_6_B
  | 0x1 => .bit_6_C
  | 0x2 => .bit_6_D
  | 0x3 => .bit_6_E
  | 0x4 => .bit_6_H
  | 0x5 => .bit_6_L
  | 0x6 => .bit_6_indHL
  | 0x7 => .bit_6_A
  | 0x8 => .bit_7_B
  | 0x9 => .bit_7_C
  | 0xA => .bit_7_D
  | 0xB => .bit_7_E
  | 0xC => .bit_7_H
  | 0xD => .bit_7_L
  | 0xE => .bit_7_indHL
  | _ => .bit_7_A

/-- Row 8 of the extended table: the extended opcodes 0x80 to 0x8F by low nibble (R101). -/
def extGroup8 : Nat → Instr
  | 0x0 => .res_0_B
  | 0x1 => .res_0_C
  | 0x2 => .res_0_D
  | 0x3 => .res_0_E
  | 0x4 => .res_0_H
  | 0x5 => .res_0_L
  | 0x6 => .res_0_indHL
  | 0x7 => .res_0_A
  | 0x8 => .res_1_B
  | 0x9 => .res_1_C
  | 0xA => .res_1_D
  | 0xB => .res_1_E
  | 0xC => .res_1_H
  | 0xD => .res_1_L
  | 0xE => .res_1_indHL
  | _ => .res_1_A

/-- Row 9 of the extended table: the extended opcodes 0x90 to 0x9F by low nibble (R101). -/
def extGroup9 : Nat → Instr
  | 0x0 => .res_2_B
  | 0x1 => .res_2_C
  | 0x2 => .res_2_D
  | 0x3 => .res_2_E
  | 0x4 => .res_2_H
  | 0x5 => .res_2_L
  | 0x6 => .res_2_indHL
  | 0x7 => .res_2_A
  | 0x8 => .res_3_B
  | 0x9 => .res_3_C
  | 0xA => .res_3_D
  | 0xB => .res_3_E
  | 0xC => .res_3_H
  | 0xD => .res_3_L
  | 0xE => .res_3_indHL
  | _ => .res_3_A

/-- Row A of the extended table: the extended opcodes 0xA0 to 0xAF by low nibble (R101). -/
def extGroupA : Nat → Instr
  | 0x0 => .res_4_B
  | 0x1 => .res_4_C
  | 0x2 => .res_4_D
  | 0x3 => .res_4_E
  | 0x4 => .res_4_H
  | 0x5 => .res_4_L
  | 0x6 => .res_4_indHL
  | 0x7 => .res_4_A
  | 0x8 => .res_5_B
  | 0x9 => .res_5_C
  | 0xA => .res_5_D
  | 0xB => .res_5_E
  | 0xC => .res_5_H
  | 0xD => .res_5_L
  | 0xE => .res_5_indHL
  | _ => .res_5_A

/-- Row B of the extended table: the extended opcodes 0xB0 to 0xBF by low nibble (R101). -/
def extGroupB : Nat → Instr
  | 0x0 => .res_6_B
  | 0x1 => .res_6_C
  | 0x2 => .res_6_D
  | 0x3 => .res_6_E
  | 0x4 => .res_6_H
  | 0x5 => .res_6_L
  | 0x6 => .res_6_indHL
  | 0x7 => .res_6_A
  | 0x8 => .res_7_B
  | 0x9 => .res_7_C
  | 0xA => .res_7_D
  | 0xB => .res_7_E
  | 0xC => .res_7_H
  | 0xD => .res_7_L
  | 0xE => .res_7_indHL
  | _ => .res_7_A

/-- Row C of the extended table: the extended opcodes 0xC0 to 0xCF by low nibble (R101). -/
def extGroupC : Nat → Instr
  | 0x0 => .set_0_B
  | 0x1 => .set_0_C
  | 0x2 => .set_0_D
  | 0x3 => .set_0_E
  | 0x4 => .set_0_H
  | 0x5 => .set_0_L
  | 0x6 => .set_0_indHL
  | 0x7 => .set_0_A
  | 0x8 => .set_1_B
  | 0x9 => .set_1_C
  | 0xA => .set_1_D
  | 0xB => .set_1_E
  | 0xC => .set_1_H
  | 0xD => .set_1_L
  | 0xE => .set_1_indHL
  | _ => .set_1_A

/-- Row D of the extended table: the extended opcodes 0xD0 to 0xDF by low nibble (R101). -/
def extGroupD : Nat → Instr
  | 0x0 => .set_2_B
  | 0x1 => .set_2_C
  | 0x2 => .set_2_D
  | 0x3 => .set_2_E
  | 0x4 => .set_2_H
  | 0x5 => .set_2_L
  | 0x6 => .set_2_indHL
  | 0x7 => .set_2_A
  | 0x8 => .set_3_B
  | 0x9 => .set_3_C
  | 0xA => .set_3_D
  | 0xB => .set_3_E
  | 0xC => .set_3_H
  | 0xD => .set_3_L
  | 0xE => .set_3_indHL
  | _ => .set_3_A

/-- Row E of the extended table: the extended opcodes 0xE0 to 0xEF by low nibble (R101). -/
def extGroupE : Nat → Instr
  | 0x0 => .set_4_B
  | 0x1 => .set_4_C
  | 0x2 => .set_4_D
  | 0x3 => .set_4_E
  | 0x4 => .set_4_H
  | 0x5 => .set_4_L
  | 0x6 => .set_4_indHL
  | 0x7 => .set_4_A
  | 0x8 => .set_5_B
  | 0x9 => .set_5_C
  | 0xA => .set_5_D
  | 0xB => .set_5_E
  | 0xC => .set_5_H
  | 0xD => .set_5_L
  | 0xE => .set_5_indHL
  | _ => .set_5_A

/-- Row F of the extended table: the extended opcodes 0xF0 to 0xFF by low nibble (R101). -/
def extGroupF : Nat → Instr
  | 0x0 => .set_6_B
  | 0x1 => .set_6_C
  | 0x2 => .set_6_D
  | 0x3 => .set_6_E
  | 0x4 => .set_6_H
  | 0x5 => .set_6_L
  | 0x6 => .set_6_indHL
  | 0x7 => .set_6_A
  | 0x8 => .set_7_B
  | 0x9 => .set_7_C
  | 0xA => .set_7_D
  | 0xB => .set_7_E
  | 0xC => .set_7_H
  | 0xD => .set_7_L
  | 0xE => .set_7_indHL
  | _ => .set_7_A

/-- The base opcode map (R99, R100): the high nibble `o[7:4]` selects the group, the low nibble `o[3:0]` the entry. -/
def baseEntry (o : Byte) : Entry :=
  match o.toNat / 16 with
  | 0x0 => baseGroup0 (o.toNat % 16)
  | 0x1 => baseGroup1 (o.toNat % 16)
  | 0x2 => baseGroup2 (o.toNat % 16)
  | 0x3 => baseGroup3 (o.toNat % 16)
  | 0x4 => baseGroup4 (o.toNat % 16)
  | 0x5 => baseGroup5 (o.toNat % 16)
  | 0x6 => baseGroup6 (o.toNat % 16)
  | 0x7 => baseGroup7 (o.toNat % 16)
  | 0x8 => baseGroup8 (o.toNat % 16)
  | 0x9 => baseGroup9 (o.toNat % 16)
  | 0xA => baseGroupA (o.toNat % 16)
  | 0xB => baseGroupB (o.toNat % 16)
  | 0xC => baseGroupC (o.toNat % 16)
  | 0xD => baseGroupD (o.toNat % 16)
  | 0xE => baseGroupE (o.toNat % 16)
  | _ => baseGroupF (o.toNat % 16)

/-- The extended opcode map (R101): every byte is an instruction. -/
def extInstr (o : Byte) : Instr :=
  match o.toNat / 16 with
  | 0x0 => extGroup0 (o.toNat % 16)
  | 0x1 => extGroup1 (o.toNat % 16)
  | 0x2 => extGroup2 (o.toNat % 16)
  | 0x3 => extGroup3 (o.toNat % 16)
  | 0x4 => extGroup4 (o.toNat % 16)
  | 0x5 => extGroup5 (o.toNat % 16)
  | 0x6 => extGroup6 (o.toNat % 16)
  | 0x7 => extGroup7 (o.toNat % 16)
  | 0x8 => extGroup8 (o.toNat % 16)
  | 0x9 => extGroup9 (o.toNat % 16)
  | 0xA => extGroupA (o.toNat % 16)
  | 0xB => extGroupB (o.toNat % 16)
  | 0xC => extGroupC (o.toNat % 16)
  | 0xD => extGroupD (o.toNat % 16)
  | 0xE => extGroupE (o.toNat % 16)
  | _ => extGroupF (o.toNat % 16)

/-- Why a list of bytes is no instruction: it ends before the instruction does. -/
inductive DecodeError where
  /-- no byte at all -/
  | noBytes
  /-- the opcode `o` wants more bytes than the list holds (R90) -/
  | truncated (o : Byte)
deriving DecidableEq, Repr

/-- Decodes the instruction at the head of a list of bytes and answers it with the bytes after it (R90, R96, R99, R112).
A list that ends right after the 0xCB byte holds the row PREFIX CB alone (log entry 7). -/
def decode : List Byte → Except DecodeError (Instr × List Byte)
  | [] => .error .noBytes
  | o :: rest =>
    match baseEntry o with
    | .op i => .ok (i, rest)
    | .opByte i =>
      match rest with
      | n :: rest => .ok (i n, rest)
      | [] => .error (.truncated o)
    | .opWord i =>
      match rest with
      | lo :: hi :: rest => .ok (i (wordOf hi lo), rest)
      | _ => .error (.truncated o)
    | .extended =>
      match rest with
      | o2 :: rest => .ok (extInstr o2, rest)
      | [] => .ok (.prefix_CB, [])

/-- The instruction that begins with three given bytes: what the core reads at PC, PC + 1 and PC + 2 (R111, R112).
It takes from the second and third byte only what the first one asks for. -/
def decodeBytes (b0 b1 b2 : Byte) : Instr :=
  match baseEntry b0 with
  | .op i => i
  | .opByte i => i b1
  | .opWord i => i (wordOf b2 b1)
  | .extended => extInstr b1

/-- The bytes of an instruction in fetch order, from the encoding column of the opcode table and each rule's
`Encoding:` line (R90, R96, R106). The bare 0xCB byte is the row PREFIX CB. -/
def encode : Instr → List Byte
  | .nop => [0x00]
  | .ld_BC_nn nn => [0x01, loByte nn, hiByte nn]
  | .ld_indBC_A => [0x02]
  | .inc_BC => [0x03]
  | .inc_B => [0x04]
  | .dec_B => [0x05]
  | .ld_B_n n => [0x06, n]
  | .rlca => [0x07]
  | .ld_ind_nn_SP nn => [0x08, loByte nn, hiByte nn]
  | .add_HL_BC => [0x09]
  | .ld_A_indBC => [0x0A]
  | .dec_BC => [0x0B]
  | .inc_C => [0x0C]
  | .dec_C => [0x0D]
  | .ld_C_n n => [0x0E, n]
  | .rrca => [0x0F]
  | .stop x => [0x10, x]
  | .ld_DE_nn nn => [0x11, loByte nn, hiByte nn]
  | .ld_indDE_A => [0x12]
  | .inc_DE => [0x13]
  | .inc_D => [0x14]
  | .dec_D => [0x15]
  | .ld_D_n n => [0x16, n]
  | .rla => [0x17]
  | .jr_e e => [0x18, e]
  | .add_HL_DE => [0x19]
  | .ld_A_indDE => [0x1A]
  | .dec_DE => [0x1B]
  | .inc_E => [0x1C]
  | .dec_E => [0x1D]
  | .ld_E_n n => [0x1E, n]
  | .rra => [0x1F]
  | .jr_NZ_e e => [0x20, e]
  | .ld_HL_nn nn => [0x21, loByte nn, hiByte nn]
  | .ld_indHLI_A => [0x22]
  | .inc_HL => [0x23]
  | .inc_H => [0x24]
  | .dec_H => [0x25]
  | .ld_H_n n => [0x26, n]
  | .daa => [0x27]
  | .jr_Z_e e => [0x28, e]
  | .add_HL_HL => [0x29]
  | .ld_A_indHLI => [0x2A]
  | .dec_HL => [0x2B]
  | .inc_L => [0x2C]
  | .dec_L => [0x2D]
  | .ld_L_n n => [0x2E, n]
  | .cpl => [0x2F]
  | .jr_NC_e e => [0x30, e]
  | .ld_SP_nn nn => [0x31, loByte nn, hiByte nn]
  | .ld_indHLD_A => [0x32]
  | .inc_SP => [0x33]
  | .inc_indHL => [0x34]
  | .dec_indHL => [0x35]
  | .ld_indHL_n n => [0x36, n]
  | .scf => [0x37]
  | .jr_C_e e => [0x38, e]
  | .add_HL_SP => [0x39]
  | .ld_A_indHLD => [0x3A]
  | .dec_SP => [0x3B]
  | .inc_A => [0x3C]
  | .dec_A => [0x3D]
  | .ld_A_n n => [0x3E, n]
  | .ccf => [0x3F]
  | .ld_B_B => [0x40]
  | .ld_B_C => [0x41]
  | .ld_B_D => [0x42]
  | .ld_B_E => [0x43]
  | .ld_B_H => [0x44]
  | .ld_B_L => [0x45]
  | .ld_B_indHL => [0x46]
  | .ld_B_A => [0x47]
  | .ld_C_B => [0x48]
  | .ld_C_C => [0x49]
  | .ld_C_D => [0x4A]
  | .ld_C_E => [0x4B]
  | .ld_C_H => [0x4C]
  | .ld_C_L => [0x4D]
  | .ld_C_indHL => [0x4E]
  | .ld_C_A => [0x4F]
  | .ld_D_B => [0x50]
  | .ld_D_C => [0x51]
  | .ld_D_D => [0x52]
  | .ld_D_E => [0x53]
  | .ld_D_H => [0x54]
  | .ld_D_L => [0x55]
  | .ld_D_indHL => [0x56]
  | .ld_D_A => [0x57]
  | .ld_E_B => [0x58]
  | .ld_E_C => [0x59]
  | .ld_E_D => [0x5A]
  | .ld_E_E => [0x5B]
  | .ld_E_H => [0x5C]
  | .ld_E_L => [0x5D]
  | .ld_E_indHL => [0x5E]
  | .ld_E_A => [0x5F]
  | .ld_H_B => [0x60]
  | .ld_H_C => [0x61]
  | .ld_H_D => [0x62]
  | .ld_H_E => [0x63]
  | .ld_H_H => [0x64]
  | .ld_H_L => [0x65]
  | .ld_H_indHL => [0x66]
  | .ld_H_A => [0x67]
  | .ld_L_B => [0x68]
  | .ld_L_C => [0x69]
  | .ld_L_D => [0x6A]
  | .ld_L_E => [0x6B]
  | .ld_L_H => [0x6C]
  | .ld_L_L => [0x6D]
  | .ld_L_indHL => [0x6E]
  | .ld_L_A => [0x6F]
  | .ld_indHL_B => [0x70]
  | .ld_indHL_C => [0x71]
  | .ld_indHL_D => [0x72]
  | .ld_indHL_E => [0x73]
  | .ld_indHL_H => [0x74]
  | .ld_indHL_L => [0x75]
  | .halt => [0x76]
  | .ld_indHL_A => [0x77]
  | .ld_A_B => [0x78]
  | .ld_A_C => [0x79]
  | .ld_A_D => [0x7A]
  | .ld_A_E => [0x7B]
  | .ld_A_H => [0x7C]
  | .ld_A_L => [0x7D]
  | .ld_A_indHL => [0x7E]
  | .ld_A_A => [0x7F]
  | .add_A_B => [0x80]
  | .add_A_C => [0x81]
  | .add_A_D => [0x82]
  | .add_A_E => [0x83]
  | .add_A_H => [0x84]
  | .add_A_L => [0x85]
  | .add_A_indHL => [0x86]
  | .add_A_A => [0x87]
  | .adc_A_B => [0x88]
  | .adc_A_C => [0x89]
  | .adc_A_D => [0x8A]
  | .adc_A_E => [0x8B]
  | .adc_A_H => [0x8C]
  | .adc_A_L => [0x8D]
  | .adc_A_indHL => [0x8E]
  | .adc_A_A => [0x8F]
  | .sub_B => [0x90]
  | .sub_C => [0x91]
  | .sub_D => [0x92]
  | .sub_E => [0x93]
  | .sub_H => [0x94]
  | .sub_L => [0x95]
  | .sub_indHL => [0x96]
  | .sub_A => [0x97]
  | .sbc_A_B => [0x98]
  | .sbc_A_C => [0x99]
  | .sbc_A_D => [0x9A]
  | .sbc_A_E => [0x9B]
  | .sbc_A_H => [0x9C]
  | .sbc_A_L => [0x9D]
  | .sbc_A_indHL => [0x9E]
  | .sbc_A_A => [0x9F]
  | .and_B => [0xA0]
  | .and_C => [0xA1]
  | .and_D => [0xA2]
  | .and_E => [0xA3]
  | .and_H => [0xA4]
  | .and_L => [0xA5]
  | .and_indHL => [0xA6]
  | .and_A => [0xA7]
  | .xor_B => [0xA8]
  | .xor_C => [0xA9]
  | .xor_D => [0xAA]
  | .xor_E => [0xAB]
  | .xor_H => [0xAC]
  | .xor_L => [0xAD]
  | .xor_indHL => [0xAE]
  | .xor_A => [0xAF]
  | .or_B => [0xB0]
  | .or_C => [0xB1]
  | .or_D => [0xB2]
  | .or_E => [0xB3]
  | .or_H => [0xB4]
  | .or_L => [0xB5]
  | .or_indHL => [0xB6]
  | .or_A => [0xB7]
  | .cp_B => [0xB8]
  | .cp_C => [0xB9]
  | .cp_D => [0xBA]
  | .cp_E => [0xBB]
  | .cp_H => [0xBC]
  | .cp_L => [0xBD]
  | .cp_indHL => [0xBE]
  | .cp_A => [0xBF]
  | .ret_NZ => [0xC0]
  | .pop_BC => [0xC1]
  | .jp_NZ_nn nn => [0xC2, loByte nn, hiByte nn]
  | .jp_nn nn => [0xC3, loByte nn, hiByte nn]
  | .call_NZ_nn nn => [0xC4, loByte nn, hiByte nn]
  | .push_BC => [0xC5]
  | .add_A_n n => [0xC6, n]
  | .rst_00 => [0xC7]
  | .ret_Z => [0xC8]
  | .ret => [0xC9]
  | .jp_Z_nn nn => [0xCA, loByte nn, hiByte nn]
  | .prefix_CB => [0xCB]
  | .call_Z_nn nn => [0xCC, loByte nn, hiByte nn]
  | .call_nn nn => [0xCD, loByte nn, hiByte nn]
  | .adc_A_n n => [0xCE, n]
  | .rst_08 => [0xCF]
  | .ret_NC => [0xD0]
  | .pop_DE => [0xD1]
  | .jp_NC_nn nn => [0xD2, loByte nn, hiByte nn]
  | .illegal_D3 => [0xD3]
  | .call_NC_nn nn => [0xD4, loByte nn, hiByte nn]
  | .push_DE => [0xD5]
  | .sub_n n => [0xD6, n]
  | .rst_10 => [0xD7]
  | .ret_C => [0xD8]
  | .reti => [0xD9]
  | .jp_C_nn nn => [0xDA, loByte nn, hiByte nn]
  | .illegal_DB => [0xDB]
  | .call_C_nn nn => [0xDC, loByte nn, hiByte nn]
  | .illegal_DD => [0xDD]
  | .sbc_A_n n => [0xDE, n]
  | .rst_18 => [0xDF]
  | .ldh_ind_n_A n => [0xE0, n]
  | .pop_HL => [0xE1]
  | .ld_indC_A => [0xE2]
  | .illegal_E3 => [0xE3]
  | .illegal_E4 => [0xE4]
  | .push_HL => [0xE5]
  | .and_n n => [0xE6, n]
  | .rst_20 => [0xE7]
  | .add_SP_e e => [0xE8, e]
  | .jp_HL => [0xE9]
  | .ld_ind_nn_A nn => [0xEA, loByte nn, hiByte nn]
  | .illegal_EB => [0xEB]
  | .illegal_EC => [0xEC]
  | .illegal_ED => [0xED]
  | .xor_n n => [0xEE, n]
  | .rst_28 => [0xEF]
  | .ldh_A_ind_n n => [0xF0, n]
  | .pop_AF => [0xF1]
  | .ld_A_indC => [0xF2]
  | .di => [0xF3]
  | .illegal_F4 => [0xF4]
  | .push_AF => [0xF5]
  | .or_n n => [0xF6, n]
  | .rst_30 => [0xF7]
  | .ld_HL_SPplus_e e => [0xF8, e]
  | .ld_SP_HL => [0xF9]
  | .ld_A_ind_nn nn => [0xFA, loByte nn, hiByte nn]
  | .ei => [0xFB]
  | .illegal_FC => [0xFC]
  | .illegal_FD => [0xFD]
  | .cp_n n => [0xFE, n]
  | .rst_38 => [0xFF]
  | .rlc_B => [0xCB, 0x00]
  | .rlc_C => [0xCB, 0x01]
  | .rlc_D => [0xCB, 0x02]
  | .rlc_E => [0xCB, 0x03]
  | .rlc_H => [0xCB, 0x04]
  | .rlc_L => [0xCB, 0x05]
  | .rlc_indHL => [0xCB, 0x06]
  | .rlc_A => [0xCB, 0x07]
  | .rrc_B => [0xCB, 0x08]
  | .rrc_C => [0xCB, 0x09]
  | .rrc_D => [0xCB, 0x0A]
  | .rrc_E => [0xCB, 0x0B]
  | .rrc_H => [0xCB, 0x0C]
  | .rrc_L => [0xCB, 0x0D]
  | .rrc_indHL => [0xCB, 0x0E]
  | .rrc_A => [0xCB, 0x0F]
  | .rl_B => [0xCB, 0x10]
  | .rl_C => [0xCB, 0x11]
  | .rl_D => [0xCB, 0x12]
  | .rl_E => [0xCB, 0x13]
  | .rl_H => [0xCB, 0x14]
  | .rl_L => [0xCB, 0x15]
  | .rl_indHL => [0xCB, 0x16]
  | .rl_A => [0xCB, 0x17]
  | .rr_B => [0xCB, 0x18]
  | .rr_C => [0xCB, 0x19]
  | .rr_D => [0xCB, 0x1A]
  | .rr_E => [0xCB, 0x1B]
  | .rr_H => [0xCB, 0x1C]
  | .rr_L => [0xCB, 0x1D]
  | .rr_indHL => [0xCB, 0x1E]
  | .rr_A => [0xCB, 0x1F]
  | .sla_B => [0xCB, 0x20]
  | .sla_C => [0xCB, 0x21]
  | .sla_D => [0xCB, 0x22]
  | .sla_E => [0xCB, 0x23]
  | .sla_H => [0xCB, 0x24]
  | .sla_L => [0xCB, 0x25]
  | .sla_indHL => [0xCB, 0x26]
  | .sla_A => [0xCB, 0x27]
  | .sra_B => [0xCB, 0x28]
  | .sra_C => [0xCB, 0x29]
  | .sra_D => [0xCB, 0x2A]
  | .sra_E => [0xCB, 0x2B]
  | .sra_H => [0xCB, 0x2C]
  | .sra_L => [0xCB, 0x2D]
  | .sra_indHL => [0xCB, 0x2E]
  | .sra_A => [0xCB, 0x2F]
  | .swap_B => [0xCB, 0x30]
  | .swap_C => [0xCB, 0x31]
  | .swap_D => [0xCB, 0x32]
  | .swap_E => [0xCB, 0x33]
  | .swap_H => [0xCB, 0x34]
  | .swap_L => [0xCB, 0x35]
  | .swap_indHL => [0xCB, 0x36]
  | .swap_A => [0xCB, 0x37]
  | .srl_B => [0xCB, 0x38]
  | .srl_C => [0xCB, 0x39]
  | .srl_D => [0xCB, 0x3A]
  | .srl_E => [0xCB, 0x3B]
  | .srl_H => [0xCB, 0x3C]
  | .srl_L => [0xCB, 0x3D]
  | .srl_indHL => [0xCB, 0x3E]
  | .srl_A => [0xCB, 0x3F]
  | .bit_0_B => [0xCB, 0x40]
  | .bit_0_C => [0xCB, 0x41]
  | .bit_0_D => [0xCB, 0x42]
  | .bit_0_E => [0xCB, 0x43]
  | .bit_0_H => [0xCB, 0x44]
  | .bit_0_L => [0xCB, 0x45]
  | .bit_0_indHL => [0xCB, 0x46]
  | .bit_0_A => [0xCB, 0x47]
  | .bit_1_B => [0xCB, 0x48]
  | .bit_1_C => [0xCB, 0x49]
  | .bit_1_D => [0xCB, 0x4A]
  | .bit_1_E => [0xCB, 0x4B]
  | .bit_1_H => [0xCB, 0x4C]
  | .bit_1_L => [0xCB, 0x4D]
  | .bit_1_indHL => [0xCB, 0x4E]
  | .bit_1_A => [0xCB, 0x4F]
  | .bit_2_B => [0xCB, 0x50]
  | .bit_2_C => [0xCB, 0x51]
  | .bit_2_D => [0xCB, 0x52]
  | .bit_2_E => [0xCB, 0x53]
  | .bit_2_H => [0xCB, 0x54]
  | .bit_2_L => [0xCB, 0x55]
  | .bit_2_indHL => [0xCB, 0x56]
  | .bit_2_A => [0xCB, 0x57]
  | .bit_3_B => [0xCB, 0x58]
  | .bit_3_C => [0xCB, 0x59]
  | .bit_3_D => [0xCB, 0x5A]
  | .bit_3_E => [0xCB, 0x5B]
  | .bit_3_H => [0xCB, 0x5C]
  | .bit_3_L => [0xCB, 0x5D]
  | .bit_3_indHL => [0xCB, 0x5E]
  | .bit_3_A => [0xCB, 0x5F]
  | .bit_4_B => [0xCB, 0x60]
  | .bit_4_C => [0xCB, 0x61]
  | .bit_4_D => [0xCB, 0x62]
  | .bit_4_E => [0xCB, 0x63]
  | .bit_4_H => [0xCB, 0x64]
  | .bit_4_L => [0xCB, 0x65]
  | .bit_4_indHL => [0xCB, 0x66]
  | .bit_4_A => [0xCB, 0x67]
  | .bit_5_B => [0xCB, 0x68]
  | .bit_5_C => [0xCB, 0x69]
  | .bit_5_D => [0xCB, 0x6A]
  | .bit_5_E => [0xCB, 0x6B]
  | .bit_5_H => [0xCB, 0x6C]
  | .bit_5_L => [0xCB, 0x6D]
  | .bit_5_indHL => [0xCB, 0x6E]
  | .bit_5_A => [0xCB, 0x6F]
  | .bit_6_B => [0xCB, 0x70]
  | .bit_6_C => [0xCB, 0x71]
  | .bit_6_D => [0xCB, 0x72]
  | .bit_6_E => [0xCB, 0x73]
  | .bit_6_H => [0xCB, 0x74]
  | .bit_6_L => [0xCB, 0x75]
  | .bit_6_indHL => [0xCB, 0x76]
  | .bit_6_A => [0xCB, 0x77]
  | .bit_7_B => [0xCB, 0x78]
  | .bit_7_C => [0xCB, 0x79]
  | .bit_7_D => [0xCB, 0x7A]
  | .bit_7_E => [0xCB, 0x7B]
  | .bit_7_H => [0xCB, 0x7C]
  | .bit_7_L => [0xCB, 0x7D]
  | .bit_7_indHL => [0xCB, 0x7E]
  | .bit_7_A => [0xCB, 0x7F]
  | .res_0_B => [0xCB, 0x80]
  | .res_0_C => [0xCB, 0x81]
  | .res_0_D => [0xCB, 0x82]
  | .res_0_E => [0xCB, 0x83]
  | .res_0_H => [0xCB, 0x84]
  | .res_0_L => [0xCB, 0x85]
  | .res_0_indHL => [0xCB, 0x86]
  | .res_0_A => [0xCB, 0x87]
  | .res_1_B => [0xCB, 0x88]
  | .res_1_C => [0xCB, 0x89]
  | .res_1_D => [0xCB, 0x8A]
  | .res_1_E => [0xCB, 0x8B]
  | .res_1_H => [0xCB, 0x8C]
  | .res_1_L => [0xCB, 0x8D]
  | .res_1_indHL => [0xCB, 0x8E]
  | .res_1_A => [0xCB, 0x8F]
  | .res_2_B => [0xCB, 0x90]
  | .res_2_C => [0xCB, 0x91]
  | .res_2_D => [0xCB, 0x92]
  | .res_2_E => [0xCB, 0x93]
  | .res_2_H => [0xCB, 0x94]
  | .res_2_L => [0xCB, 0x95]
  | .res_2_indHL => [0xCB, 0x96]
  | .res_2_A => [0xCB, 0x97]
  | .res_3_B => [0xCB, 0x98]
  | .res_3_C => [0xCB, 0x99]
  | .res_3_D => [0xCB, 0x9A]
  | .res_3_E => [0xCB, 0x9B]
  | .res_3_H => [0xCB, 0x9C]
  | .res_3_L => [0xCB, 0x9D]
  | .res_3_indHL => [0xCB, 0x9E]
  | .res_3_A => [0xCB, 0x9F]
  | .res_4_B => [0xCB, 0xA0]
  | .res_4_C => [0xCB, 0xA1]
  | .res_4_D => [0xCB, 0xA2]
  | .res_4_E => [0xCB, 0xA3]
  | .res_4_H => [0xCB, 0xA4]
  | .res_4_L => [0xCB, 0xA5]
  | .res_4_indHL => [0xCB, 0xA6]
  | .res_4_A => [0xCB, 0xA7]
  | .res_5_B => [0xCB, 0xA8]
  | .res_5_C => [0xCB, 0xA9]
  | .res_5_D => [0xCB, 0xAA]
  | .res_5_E => [0xCB, 0xAB]
  | .res_5_H => [0xCB, 0xAC]
  | .res_5_L => [0xCB, 0xAD]
  | .res_5_indHL => [0xCB, 0xAE]
  | .res_5_A => [0xCB, 0xAF]
  | .res_6_B => [0xCB, 0xB0]
  | .res_6_C => [0xCB, 0xB1]
  | .res_6_D => [0xCB, 0xB2]
  | .res_6_E => [0xCB, 0xB3]
  | .res_6_H => [0xCB, 0xB4]
  | .res_6_L => [0xCB, 0xB5]
  | .res_6_indHL => [0xCB, 0xB6]
  | .res_6_A => [0xCB, 0xB7]
  | .res_7_B => [0xCB, 0xB8]
  | .res_7_C => [0xCB, 0xB9]
  | .res_7_D => [0xCB, 0xBA]
  | .res_7_E => [0xCB, 0xBB]
  | .res_7_H => [0xCB, 0xBC]
  | .res_7_L => [0xCB, 0xBD]
  | .res_7_indHL => [0xCB, 0xBE]
  | .res_7_A => [0xCB, 0xBF]
  | .set_0_B => [0xCB, 0xC0]
  | .set_0_C => [0xCB, 0xC1]
  | .set_0_D => [0xCB, 0xC2]
  | .set_0_E => [0xCB, 0xC3]
  | .set_0_H => [0xCB, 0xC4]
  | .set_0_L => [0xCB, 0xC5]
  | .set_0_indHL => [0xCB, 0xC6]
  | .set_0_A => [0xCB, 0xC7]
  | .set_1_B => [0xCB, 0xC8]
  | .set_1_C => [0xCB, 0xC9]
  | .set_1_D => [0xCB, 0xCA]
  | .set_1_E => [0xCB, 0xCB]
  | .set_1_H => [0xCB, 0xCC]
  | .set_1_L => [0xCB, 0xCD]
  | .set_1_indHL => [0xCB, 0xCE]
  | .set_1_A => [0xCB, 0xCF]
  | .set_2_B => [0xCB, 0xD0]
  | .set_2_C => [0xCB, 0xD1]
  | .set_2_D => [0xCB, 0xD2]
  | .set_2_E => [0xCB, 0xD3]
  | .set_2_H => [0xCB, 0xD4]
  | .set_2_L => [0xCB, 0xD5]
  | .set_2_indHL => [0xCB, 0xD6]
  | .set_2_A => [0xCB, 0xD7]
  | .set_3_B => [0xCB, 0xD8]
  | .set_3_C => [0xCB, 0xD9]
  | .set_3_D => [0xCB, 0xDA]
  | .set_3_E => [0xCB, 0xDB]
  | .set_3_H => [0xCB, 0xDC]
  | .set_3_L => [0xCB, 0xDD]
  | .set_3_indHL => [0xCB, 0xDE]
  | .set_3_A => [0xCB, 0xDF]
  | .set_4_B => [0xCB, 0xE0]
  | .set_4_C => [0xCB, 0xE1]
  | .set_4_D => [0xCB, 0xE2]
  | .set_4_E => [0xCB, 0xE3]
  | .set_4_H => [0xCB, 0xE4]
  | .set_4_L => [0xCB, 0xE5]
  | .set_4_indHL => [0xCB, 0xE6]
  | .set_4_A => [0xCB, 0xE7]
  | .set_5_B => [0xCB, 0xE8]
  | .set_5_C => [0xCB, 0xE9]
  | .set_5_D => [0xCB, 0xEA]
  | .set_5_E => [0xCB, 0xEB]
  | .set_5_H => [0xCB, 0xEC]
  | .set_5_L => [0xCB, 0xED]
  | .set_5_indHL => [0xCB, 0xEE]
  | .set_5_A => [0xCB, 0xEF]
  | .set_6_B => [0xCB, 0xF0]
  | .set_6_C => [0xCB, 0xF1]
  | .set_6_D => [0xCB, 0xF2]
  | .set_6_E => [0xCB, 0xF3]
  | .set_6_H => [0xCB, 0xF4]
  | .set_6_L => [0xCB, 0xF5]
  | .set_6_indHL => [0xCB, 0xF6]
  | .set_6_A => [0xCB, 0xF7]
  | .set_7_B => [0xCB, 0xF8]
  | .set_7_C => [0xCB, 0xF9]
  | .set_7_D => [0xCB, 0xFA]
  | .set_7_E => [0xCB, 0xFB]
  | .set_7_H => [0xCB, 0xFC]
  | .set_7_L => [0xCB, 0xFD]
  | .set_7_indHL => [0xCB, 0xFE]
  | .set_7_A => [0xCB, 0xFF]

/-- How many bytes a base row of the opcode table has (its `bytes` column; the row PREFIX CB has one). -/
def rowBytes (o : Byte) : Nat :=
  match baseEntry o with
  | .op _ => 1
  | .opByte _ => 2
  | .opWord _ => 3
  | .extended => 1

/-- The three bytes in fetch order of the instruction whose `nbits` table bits are `w`, zeros above them. The table writes
an extended row as one 16-bit number with 0xCB in its HIGH byte (R106), so a 16-bit number of that shape is read so; every
other number has its first byte in bits 7..0 (log entry 8). -/
def tableBytes (nbits w : Nat) : Byte × Byte × Byte :=
  let v := w % 2 ^ nbits
  if nbits = 16 ∧ v / 256 = 0xCB then (0xCB, BitVec.ofNat 8 v, 0)
  else (BitVec.ofNat 8 v, BitVec.ofNat 8 (v / 256), BitVec.ofNat 8 (v / 65536))

/-- The instruction the decoder reads from a number of `nbits` bits written as the opcode table writes its rows: the bytes
of the row when the number holds just an opcode byte, else the three bytes with zeros above the number (log entry 8). -/
def decodeTableWord (nbits w : Nat) : Option Instr :=
  match tableBytes nbits w with
  | (b0, b1, b2) =>
    match decode (if nbits ≤ 8 then [b0, b1, b2].take (rowBytes b0) else [b0, b1, b2]) with
    | .ok (i, _) => some i
    | .error _ => none

end Sys2Proof
end

