-- ==== Sys2Proof/Config.lean ====
section
/-! DEFINITION. What an implementation fixes: the parameters of 00_scope.md R6 and what a memory byte
reads as that no entry lists. The spec leaves no result of an instruction open, so there is no free value. -/

namespace Sys2Proof.Config

/-- The parameters of R6 and R44 that a step or a host operation reads, with the spec's defaults.
A machine carries its own setting in its state and nothing ever changes it (DESIGN CHOICE, log entry 3: safe,
since every statement holds for every setting). -/
structure Params where
  /-- `CYCLE_COUNTER_WIDTH`: the width of cycle_count in bits (R6, R40, D9). -/
  cycleCounterWidth : Nat := 64
  /-- `ILLEGAL_CONTINUES`: whether steps go on after an IllegalOpcode (R6, R336, D7). -/
  illegalContinues : Bool := false
  /-- `INTERRUPT_ENTRY`: whether the host operation interruptEntry exists (R6, R326, D13). -/
  interruptEntry : Bool := false
deriving DecidableEq, Repr

/-- The parameters at the spec's defaults (R6). -/
def defaultParams : Params := {}

/-- What an address reads as that the memory does not list: the byte the canonical form leaves out.
DESIGN CHOICE (log entry 1), unsafe for statements about State.reset's memory only: the spec's INITIAL_MEMORY is a
draw of any content (R68), and every content is a memory of this form. -/
def unlistedByte : Byte := 0x00#8

end Sys2Proof.Config
end

