-- ==== Sys2Proof/Machine/State.lean ====
section
/-! DEFINITION. The state of the core (10_state.md), its address space (20_memory.md), the outputs of its last step, and
its value after reset (R45, R360). Plain data throughout. -/

namespace Sys2Proof.Machine

/-- The error of a step (R320, R321). It is a value of the latch `State.fault`: R321 gives the state an illegal opcode
leaves, so the step that meets one answers a NEXT state that holds it, and no step of this model answers
`Host.Outcome.fault`. -/
inductive Fault where
  /-- `IllegalOpcode(b)`: raised by a step whose opcode byte is `b`, one of the eleven values of R102. Safe: it is the
  spec's own outcome, and the state it leaves is the spec's. -/
  | illegalOpcode (b : Byte)
deriving DecidableEq, Repr

/-- Why an instruction has no meaning here. -/
inductive Refusal where
  /-- Raised by no arm of `exec`: every row of the opcode table has its meaning. Safe: it would stop the machine. -/
  | notModelled (mnemonic : String)
deriving DecidableEq, Repr

/-- The address space (R60): pairs of an address and its byte, addresses strictly rising below 65536, and no pair whose
byte is what an unlisted address reads as (`Memory.wf`). -/
abbrev Memory := List Host.Cell

/-- What a step reports to the driver (R11, R330, R333): its cost, a signed 32-bit value with -1 for an illegal opcode
(R6, R114), and at most one interrupt-enable request (R324). -/
structure StepResult where
  cost : Int
  ime : Option ImeRequest
deriving DecidableEq, Repr

/-- The state of the core between steps. -/
structure State where
  /-- the accumulator A (R30) -/
  a : Byte
  /-- the flags F: Z, N, H, C in bits 7..4, bits 3..0 zero (R33, R34) -/
  f : Byte
  /-- the register B (R30) -/
  b : Byte
  /-- the register C (R30) -/
  c : Byte
  /-- the register D (R30) -/
  d : Byte
  /-- the register E (R30) -/
  e : Byte
  /-- the register H (R30) -/
  h : Byte
  /-- the register L (R30) -/
  l : Byte
  /-- the stack pointer SP (R37) -/
  sp : Word
  /-- the program counter PC (R36) -/
  pc : Word
  /-- the halt controller (R38, R329) -/
  halted : Bool
  /-- cycle_count (R40), below 2 to the power of the width in `params` -/
  cycleCount : Nat
  /-- the fault latch (R41) -/
  fault : Option Fault
  /-- the address space (R60) -/
  mem : Memory
  /-- the machine's parameters (R6, R44), which nothing changes (log entry 3) -/
  params : Config.Params
  /-- what the last step reported (R11, R330): the model's own field (log entry 4) -/
  result : StepResult
deriving DecidableEq, Repr

/-- The report before any step (DESIGN CHOICE, log entry 4: unsafe for a statement about a report before the first step). -/
def StepResult.none : StepResult := { cost := 0, ime := Option.none }

/-- The state reset leaves in each of its two modes, over the given parameters and memory (R45, R360, R361). -/
def State.resetTo (bootRomPresent : Bool) (p : Config.Params) (m : Memory) : State :=
  if bootRomPresent then
    { a := 0x00, f := 0x00, b := 0x00, c := 0x00, d := 0x00, e := 0x00, h := 0x00, l := 0x00
      sp := 0x0000, pc := 0x0000, halted := false, cycleCount := 0, fault := none
      mem := m, params := p, result := StepResult.none }
  else
    { a := 0x01, f := 0xB0, b := 0x00, c := 0x13, d := 0x00, e := 0xD8, h := 0x01, l := 0x4D
      sp := 0xFFFE, pc := 0x0100, halted := false, cycleCount := 0, fault := none
      mem := m, params := p, result := StepResult.none }

/-- The machine right after `reset(false)` (R45) with the spec's default parameters and no byte of memory listed
(DESIGN CHOICE which mode and which memory, log entries 1 and 2: unsafe for statements about this one state). -/
def State.reset : State := State.resetTo false Config.defaultParams []

end Sys2Proof.Machine
end

