-- ==== Sys2Proof/Machine/Ops.lean ====
section
/-! DEFINITION. The named operations over memory, registers and the stack (20_memory.md, 10_state.md, 47_stack.md), the
frame every instruction shares (fetch, effect, report), the IllegalOpcode outcome (R321) and the interrupt entry (R326).
The core has no trap entry and no trap return besides (R323). -/

namespace Sys2Proof.Machine

/-- What `exec` and `step` answer. -/
abbrev Result := Host.Outcome State Fault Refusal

/-! ## Memory (R60 to R64) -/

/-- The canonical form: addresses strictly rise and are below 65536, and no entry repeats what an unlisted address
reads as. -/
abbrev Memory.wf (m : Memory) : Prop :=
  m.Pairwise (fun p q => p.1 < q.1) ∧ ∀ p ∈ m, p.1 < 65536 ∧ p.2 ≠ Config.unlistedByte

/-- The byte at an address (R62): the last byte written there, or what an unlisted address reads as. -/
def Memory.read : Memory → Nat → Byte
  | [], _ => Config.unlistedByte
  | (k, v) :: m, x => if k = x then v else Memory.read m x

/-- The memory with an entry for an address, at its place in the rising order. -/
def Memory.insert : Memory → Nat → Byte → Memory
  | [], x, v => [(x, v)]
  | (k, w) :: m, x, v =>
    if x < k then (x, v) :: (k, w) :: m
    else if x = k then (x, v) :: m
    else (k, w) :: Memory.insert m x v

/-- The memory with the byte at an address replaced (R62), in canonical form: writing what an unlisted address reads as
takes the entry out. -/
def Memory.write (m : Memory) (x : Nat) (v : Byte) : Memory :=
  if v = Config.unlistedByte then m.filter (fun p => p.1 != x) else m.insert x v

/-- `MemRead(addr, 1)` (R10, R61). -/
def State.readByte (s : State) (x : Word) : Byte := s.mem.read x.toNat

/-- `MemWrite(addr, 1, v)` (R10, R61). -/
def State.writeByte (s : State) (x : Word) (v : Byte) : State := { s with mem := s.mem.write x.toNat v }

/-! ## Registers (R9, R30 to R32) -/

/-- `x[r]` for an 8-bit register an instruction can name (R9). -/
def State.reg (s : State) : Reg8 → Byte
  | .B => s.b | .C => s.c | .D => s.d | .E => s.e | .H => s.h | .L => s.l | .A => s.a

/-- `x[r] <- v` (R9). -/
def State.setReg (s : State) (r : Reg8) (v : Byte) : State :=
  match r with
  | .B => { s with b := v } | .C => { s with c := v } | .D => { s with d := v } | .E => { s with e := v }
  | .H => { s with h := v } | .L => { s with l := v } | .A => { s with a := v }

/-- `F <- v & 0xF0`: every write of F forces its low nibble to zero (R33). -/
def State.setF (s : State) (v : Byte) : State := { s with f := v &&& 0xF0 }

/-- `x[SP] <- v` (R9, R37). -/
def State.setSp (s : State) (v : Word) : State := { s with sp := v }

/-- `pc <- v` (R9, R36). -/
def State.setPc (s : State) (v : Word) : State := { s with pc := v }

/-- A pair view composed at the moment of the read, the first named register high (R31). -/
def State.pair (s : State) : Pair → Word
  | .BC => wordOf s.b s.c
  | .DE => wordOf s.d s.e
  | .HL => wordOf s.h s.l
  | .AF => wordOf s.a s.f

/-- Writing a pair writes both halves and nothing else; AF's low half loses its low nibble (R32, R33). -/
def State.setPair (s : State) (q : Pair) (v : Word) : State :=
  match q with
  | .BC => { s with b := hiByte v, c := loByte v }
  | .DE => { s with d := hiByte v, e := loByte v }
  | .HL => { s with h := hiByte v, l := loByte v }
  | .AF => ({ s with a := hiByte v }).setF (loByte v)

/-- `x[rr]` for the `rr` field: a pair view or SP (R9, R93). -/
def State.reg16 (s : State) : Reg16 → Word
  | .BC => s.pair .BC | .DE => s.pair .DE | .HL => s.pair .HL | .SP => s.sp

/-- `x[rr] <- v` for the `rr` field (R9, R93). -/
def State.setReg16 (s : State) (r : Reg16) (v : Word) : State :=
  match r with
  | .BC => s.setPair .BC v | .DE => s.setPair .DE v | .HL => s.setPair .HL v | .SP => s.setSp v

/-! ## 16-bit transfers through memory (R63, R290, R291) -/

/-- `MemWrite(addr, 2, v)`: the low byte, then the high byte at the next address, wrapping (R10, R63, R64). -/
def State.writeWord (s : State) (x : Word) (v : Word) : State :=
  (s.writeByte x (loByte v)).writeByte (x + 1) (hiByte v)

/-- `Push16(v)` (R290): the high byte at SP - 1 first, then the low byte at SP - 2, and SP falls by 2. -/
def State.push16 (s : State) (v : Word) : State :=
  ((s.writeByte (s.sp - 1) (hiByte v)).writeByte (s.sp - 2) (loByte v)).setSp (s.sp - 2)

/-- The word `Pop16()` returns (R291): the low byte at SP, the high byte at SP + 1. -/
def State.stackTop (s : State) : Word := wordOf (s.readByte (s.sp + 1)) (s.readByte s.sp)

/-- What `Pop16()` does to the state (R291): SP rises by 2. -/
def State.dropTop (s : State) : State := s.setSp (s.sp + 2)

/-! ## The frame of an instruction (R11, R111, R114, R331) -/

/-- PC past the instruction's bytes, and no output yet (R36, R111). -/
def State.fetched (s : State) (length : Nat) : State :=
  { s with pc := s.pc + BitVec.ofNat 16 length, result := StepResult.none }

/-- The report of a step whose cost is not -1: the cost, and cycle_count with the cost added at its width (R114, R331). -/
def State.report (s : State) (cost : Nat) : State :=
  { s with
    cycleCount := (s.cycleCount + cost) % 2 ^ s.params.cycleCounterWidth
    result := { s.result with cost := (cost : Int) } }

/-- `emit ImeRequest(on|off)` (R11, R324). -/
def State.emitIme (s : State) (q : ImeRequest) : State :=
  { s with result := { s.result with ime := some q } }

/-- One instruction of `length` bytes: its bytes are fetched, its effect happens, its cost is reported (R111, R114). -/
def complete (length cost : Nat) (effect : State → State) (s : State) : Result :=
  .next ((effect (s.fetched length)).report cost)

/-- A conditional instruction (R114, R260): the condition is read as the instruction starts; taken it has its effect and
`cost`, not taken it only fetches its bytes and costs `costNot`. -/
def completeIf (taken : Bool) (length cost costNot : Nat) (effect : State → State) (s : State) : Result :=
  if taken then complete length cost effect s else complete length costNot id s

/-! ## The error of a step and the host's interrupt entry -/

/-- The IllegalOpcode outcome (R321): PC is past the byte, the fault is latched (an earlier one stays, R336), -1 is
reported, cycle_count and everything else stay. -/
def State.raiseIllegal (s : State) (o : Byte) : State :=
  { s with
    pc := s.pc + 1
    fault := s.fault.or (some (.illegalOpcode o))
    result := { cost := -1, ime := none } }

/-- The interrupt entry of R326 at a vector address: `halted <- false; Push16(pc); pc <- v`, reporting 20 cycles, which
cycle_count takes in (R331). -/
def State.enterInterrupt (s : State) (v : Word) : State :=
  (((({ s with halted := false, result := StepResult.none } : State).push16 s.pc).setPc v).report 20)

end Sys2Proof.Machine
end

