-- ==== Sys2Proof/Machine/Flags.lean ====
section
/-! DEFINITION. The flags of F (R33 to R35), the condition tests (R260), and the arithmetic that computes flags: the 8-bit
adder and subtracter (R170), the SP adder (R200) and the decimal adjust (R184). Sums and differences are exact and
narrowed at the end. -/

namespace Sys2Proof.Machine

/-! ## Flag accessors (R34, R35) -/

/-- `F.Z`, bit 7 of F (R34). -/
def State.flagZ (s : State) : Bool := s.f.getLsbD 7
/-- `F.N`, bit 6 of F (R34). -/
def State.flagN (s : State) : Bool := s.f.getLsbD 6
/-- `F.H`, bit 5 of F (R34). -/
def State.flagH (s : State) : Bool := s.f.getLsbD 5
/-- `F.C`, bit 4 of F (R34). -/
def State.flagC (s : State) : Bool := s.f.getLsbD 4

/-- The byte with the four flags in bits 7..4 and a zero low nibble (R33, R34). -/
def packFlags (z n h c : Bool) : Byte :=
  BitVec.ofBool z ++ BitVec.ofBool n ++ BitVec.ofBool h ++ BitVec.ofBool c ++ 0#4

/-- The simultaneous write of the four flags (R35). A rule that leaves a flag passes the flag's own value. -/
def State.setFlags (s : State) (z n h c : Bool) : State := s.setF (packFlags z n h c)

/-- `F.Z <- b` (R35). -/
def State.setZero (s : State) (b : Bool) : State := s.setFlags b s.flagN s.flagH s.flagC
/-- `F.N <- b` (R35). -/
def State.setNegative (s : State) (b : Bool) : State := s.setFlags s.flagZ b s.flagH s.flagC
/-- `F.H <- b` (R35). -/
def State.setHalfCarry (s : State) (b : Bool) : State := s.setFlags s.flagZ s.flagN b s.flagC
/-- `F.C <- b` (R35). -/
def State.setCarry (s : State) (b : Bool) : State := s.setFlags s.flagZ s.flagN s.flagH b

/-- The condition tests (R95, R260). -/
def State.cond (s : State) : Cond → Bool
  | .NZ => !s.flagZ
  | .Z => s.flagZ
  | .NC => !s.flagC
  | .C => s.flagC

/-! ## The 8-bit adder and subtracter (R170) -/

/-- A result byte and the flags that go with it. -/
structure AluResult where
  value : Byte
  z : Bool
  n : Bool
  h : Bool
  c : Bool
deriving DecidableEq, Repr

/-- `Add8(a, s, c)` (R170). -/
def add8 (a s : Byte) (c : Bool) : AluResult :=
  let w := a.toNat + s.toNat + c.toNat
  { value := BitVec.ofNat 8 w
    z := decide (w % 256 = 0)
    n := false
    h := decide ((a &&& 0x0F).toNat + (s &&& 0x0F).toNat + c.toNat > 0x0F)
    c := decide (w > 0xFF) }

/-- `Sub8(a, s, c)` (R170): H and C are borrows. -/
def sub8 (a s : Byte) (c : Bool) : AluResult :=
  let w : Int := (a.toNat : Int) - s.toNat - c.toNat
  { value := BitVec.ofInt 8 w
    z := decide (w % 256 = 0)
    n := true
    h := decide ((a &&& 0x0F).toNat < (s &&& 0x0F).toNat + c.toNat)
    c := decide (a.toNat < s.toNat + c.toNat) }

/-- The result byte and the flags of an accumulator operation (R172 to R179); `cin` is the carry flag as the instruction
starts. CP's byte is the discarded difference. -/
def aluResult (op : AluOp) (a s : Byte) (cin : Bool) : AluResult :=
  match op with
  | .add => add8 a s false
  | .adc => add8 a s cin
  | .sub => sub8 a s false
  | .sbc => sub8 a s cin
  | .and => { value := a &&& s, z := decide (a &&& s = 0), n := false, h := true, c := false }
  | .xor => { value := a ^^^ s, z := decide (a ^^^ s = 0), n := false, h := false, c := false }
  | .or => { value := a ||| s, z := decide (a ||| s = 0), n := false, h := false, c := false }
  | .cp => sub8 a s false

/-- The flags of `INC` on a byte: C stays (R180, R181). -/
def incResult (v : Byte) (c : Bool) : AluResult :=
  let w := v + 1
  { value := w, z := decide (w = 0), n := false, h := decide (v &&& 0x0F = 0x0F), c := c }

/-- The flags of `DEC` on a byte: C stays (R182, R183). -/
def decResult (v : Byte) (c : Bool) : AluResult :=
  let w := v - 1
  { value := w, z := decide (w = 0), n := true, h := decide (v &&& 0x0F = 0x00), c := c }

/-! ## Decimal adjust (R184) -/

/-- The adjusted accumulator and carry of `DAA` from A and the flags N, H, C, step by step as R184 writes it. Z and H are
the caller's: Z of the adjusted byte, H cleared. -/
def daaAdjust (a : Byte) (n h c : Bool) : Byte × Bool :=
  if n then
    let x : Int := a.toNat
    let x := if c then x - 0x60 else x
    let x := if h then x - 0x06 else x
    (BitVec.ofInt 8 x, c)
  else
    let high : Bool := c || decide (a.toNat > 0x99)
    let x : Nat := if high then a.toNat + 0x60 else a.toNat
    let x := if h || decide (x % 16 > 0x09) then x + 0x06 else x
    (BitVec.ofNat 8 x, high)

/-! ## The SP-plus-displacement adder (R200) -/

/-- `SpPlusE(sp, e)`: the sum with the sign-extended byte; H and C are those of adding the unsigned byte to SP's low byte
(R200). -/
def spPlusE (sp : Word) (e : Byte) : Word × Bool × Bool :=
  (sp + sext16 e,
   decide ((sp &&& 0x000F).toNat + (e &&& 0x0F).toNat > 0x0F),
   decide ((sp &&& 0x00FF).toNat + e.toNat > 0xFF))

/-! ## The rotates and shifts (R220 to R232) -/

/-- A bit as a byte in bit 0. -/
def bit0 (b : Bool) : Byte := (BitVec.ofBool b).setWidth 8

/-- The result byte and the carry of an extended rotate or shift; `cin` is the prior carry flag (R225 to R232). -/
def shiftResult (op : ShiftOp) (v : Byte) (cin : Bool) : Byte × Bool :=
  match op with
  | .rlc => (v <<< 1 ||| bit0 (v.getLsbD 7), v.getLsbD 7)
  | .rrc => (v >>> 1 ||| bit0 (v.getLsbD 0) <<< 7, v.getLsbD 0)
  | .rl => (v <<< 1 ||| bit0 cin, v.getLsbD 7)
  | .rr => (v >>> 1 ||| bit0 cin <<< 7, v.getLsbD 0)
  | .sla => (v <<< 1, v.getLsbD 7)
  | .sra => (v >>> 1 ||| (v &&& 0x80), v.getLsbD 0)
  | .swap => ((v &&& 0x0F) <<< 4 ||| v >>> 4, false)
  | .srl => (v >>> 1, v.getLsbD 0)

/-- The extended rotate that has the bits and the carry of an accumulator rotate (R220 to R223). -/
def accShift : AccRotate → ShiftOp
  | .rlca => .rlc
  | .rrca => .rrc
  | .rla => .rl
  | .rra => .rr

end Sys2Proof.Machine
end

