-- ==== Sys2Proof/Machine/Operands.lean ====
section
/-! DEFINITION. The operand forms (30_encoding.md R92, R96; 42_alu8.md R171; 44_rotate_shift.md R224) and the effects of
the instruction families over them. An effect runs on the state whose PC is already past the instruction's bytes
(R36, R111), and carries no cost: the cost stands with each instruction. -/

namespace Sys2Proof.Machine

/-! ## Operand forms -/

/-- HL as an address (R32). -/
def State.hl (s : State) : Word := s.pair .HL

/-- Reads the operand of an `r` field: a register, or once the byte at HL (R92, R224). -/
def State.operand (s : State) : Operand8 → Byte
  | .reg r => s.reg r
  | .indHL => s.readByte s.hl

/-- Writes the operand of an `r` field: a register, or once the byte at HL (R92, R224). -/
def State.setOperand (s : State) (o : Operand8) (v : Byte) : State :=
  match o with
  | .reg r => s.setReg r v
  | .indHL => s.writeByte s.hl v

/-- The source operand of an accumulator operation (R171). -/
def State.aluSource (s : State) : AluSource → Byte
  | .reg r => s.reg r
  | .indHL => s.readByte s.hl
  | .imm n => n

/-- `0xFF00 + n` (R96): the high-page address. -/
def highPage (n : Byte) : Word := wordOf 0xFF n

/-! ## Loads (41_loads.md) -/

/-- `LD r,r'`, `LD r,(HL)`, `LD (HL),r` (R130 to R132). -/
def copyOperand (dst src : Operand8) (s : State) : State := s.setOperand dst (s.operand src)

/-- `LD r,n`, `LD (HL),n` (R133, R134). -/
def loadImmediate (dst : Operand8) (n : Byte) (s : State) : State := s.setOperand dst n

/-- A from the byte at an address (R135, R137, R139, R141). -/
def loadA (x : Word) (s : State) : State := s.setReg .A (s.readByte x)

/-- A to the byte at an address (R136, R138, R140, R142). -/
def storeA (x : Word) (s : State) : State := s.writeByte x s.a

/-- `LD A,(BC)`, `LD A,(DE)` (R135). -/
def loadAPair (q : Pair) (s : State) : State := loadA (s.pair q) s

/-- `LD (BC),A`, `LD (DE),A` (R136). -/
def storeAPair (q : Pair) (s : State) : State := storeA (s.pair q) s

/-- `LD A,(C)` (R141). -/
def loadAHighC (s : State) : State := loadA (highPage s.c) s

/-- `LD (C),A` (R142). -/
def storeAHighC (s : State) : State := storeA (highPage s.c) s

/-- A from the byte at HL, then HL moved by a word (R143, R144). -/
def loadAMoveHL (delta : Word) (s : State) : State :=
  (s.setReg .A (s.readByte s.hl)).setPair .HL (s.hl + delta)

/-- A to the byte at HL, then HL moved by a word (R145, R146). -/
def storeAMoveHL (delta : Word) (s : State) : State :=
  (s.writeByte s.hl s.a).setPair .HL (s.hl + delta)

/-- `LD rr,nn` (R147). -/
def loadPair (r : Reg16) (nn : Word) (s : State) : State := s.setReg16 r nn

/-- `LD (nn),SP`, low byte first (R148). -/
def storeSp (nn : Word) (s : State) : State := s.writeWord nn s.sp

/-- `LD SP,HL` (R149). -/
def copyHLToSp (s : State) : State := s.setSp s.hl

/-! ## 8-bit arithmetic (42_alu8.md) -/

/-- The accumulator operations (R172 to R179): all but CP write A. -/
def accumulate (op : AluOp) (src : AluSource) (s : State) : State :=
  let r := aluResult op s.a (s.aluSource src) s.flagC
  match op with
  | .cp => s.setFlags r.z r.n r.h r.c
  | .add | .adc | .sub | .sbc | .and | .xor | .or => (s.setReg .A r.value).setFlags r.z r.n r.h r.c

/-- `INC r`, `INC (HL)` (R180, R181). -/
def incOperand (o : Operand8) (s : State) : State :=
  let r := incResult (s.operand o) s.flagC
  (s.setOperand o r.value).setFlags r.z r.n r.h r.c

/-- `DEC r`, `DEC (HL)` (R182, R183). -/
def decOperand (o : Operand8) (s : State) : State :=
  let r := decResult (s.operand o) s.flagC
  (s.setOperand o r.value).setFlags r.z r.n r.h r.c

/-- `DAA` (R184): Z of the adjusted A, N unchanged, H cleared. -/
def decimalAdjust (s : State) : State :=
  let r := daaAdjust s.a s.flagN s.flagH s.flagC
  (s.setReg .A r.1).setFlags (decide (r.1 = 0)) s.flagN false r.2

/-- `CPL` (R185). -/
def complementA (s : State) : State := (s.setReg .A (s.a ^^^ 0xFF)).setFlags s.flagZ true true s.flagC

/-- `SCF` (R186). -/
def setCarryFlag (s : State) : State := s.setFlags s.flagZ false false true

/-- `CCF` (R187). -/
def complementCarryFlag (s : State) : State := s.setFlags s.flagZ false false (!s.flagC)

/-! ## 16-bit arithmetic (43_alu16.md) -/

/-- `ADD HL,rr` (R201): both operands are read before HL is written; Z unchanged. -/
def addToHL (r : Reg16) (s : State) : State :=
  let h := s.hl
  let v := s.reg16 r
  (s.setPair .HL (h + v)).setFlags s.flagZ false
    (decide ((h &&& 0x0FFF).toNat + (v &&& 0x0FFF).toNat > 0x0FFF))
    (decide (h.toNat + v.toNat > 0xFFFF))

/-- `ADD SP,e` (R202). -/
def addToSp (e : Byte) (s : State) : State :=
  let r := spPlusE s.sp e
  (s.setSp r.1).setFlags false false r.2.1 r.2.2

/-- `LD HL,SP+e` (R203). -/
def loadHLSpPlus (e : Byte) (s : State) : State :=
  let r := spPlusE s.sp e
  (s.setPair .HL r.1).setFlags false false r.2.1 r.2.2

/-- `INC rr` (R204). -/
def incPair (r : Reg16) (s : State) : State := s.setReg16 r (s.reg16 r + 1)

/-- `DEC rr` (R205). -/
def decPair (r : Reg16) (s : State) : State := s.setReg16 r (s.reg16 r - 1)

/-! ## Rotates, shifts and bits (44_rotate_shift.md, 45_bit.md) -/

/-- `RLCA`, `RRCA`, `RLA`, `RRA` (R220 to R223): Z is always cleared. -/
def rotateA (op : AccRotate) (s : State) : State :=
  let r := shiftResult (accShift op) s.a s.flagC
  (s.setReg .A r.1).setFlags false false false r.2

/-- The extended rotates and shifts (R225 to R232): Z of the result. -/
def shiftOperand (op : ShiftOp) (o : Operand8) (s : State) : State :=
  let r := shiftResult op (s.operand o) s.flagC
  (s.setOperand o r.1).setFlags (decide (r.1 = 0)) false false r.2

/-- `BIT b` (R250): the operand is only read. -/
def testBit (b : Fin 8) (o : Operand8) (s : State) : State :=
  s.setFlags (!(s.operand o).getLsbD b) false true s.flagC

/-- `RES b` (R251). -/
def resetBit (b : Fin 8) (o : Operand8) (s : State) : State :=
  s.setOperand o (s.operand o &&& ~~~(1#8 <<< b.val))

/-- `SET b` (R252). -/
def setBit (b : Fin 8) (o : Operand8) (s : State) : State :=
  s.setOperand o (s.operand o ||| 1#8 <<< b.val)

/-! ## Control transfer and the stack (46_control.md, 47_stack.md) -/

/-- `JP` to an address (R261, R262). -/
def jump (t : Word) (s : State) : State := s.setPc t

/-- `JP HL` (R263). -/
def jumpHL (s : State) : State := s.setPc s.hl

/-- `JR e`: PC is already past the displacement byte (R264, R265). -/
def jumpRelative (e : Byte) (s : State) : State := s.setPc (s.pc + sext16 e)

/-- `CALL`, `RST`: the return address is PC past the instruction (R266, R267, R271). -/
def call (t : Word) (s : State) : State := (s.push16 s.pc).setPc t

/-- `RET` (R268, R269). -/
def ret (s : State) : State := s.dropTop.setPc s.stackTop

/-- `RETI`: a return that also asks for interrupts to be enabled (R270). -/
def retEnable (s : State) : State := (ret s).emitIme .on

/-- `PUSH qq` (R292). -/
def pushPair (q : Pair) (s : State) : State := s.push16 (s.pair q)

/-- `POP qq` (R293, R294). -/
def popPair (q : Pair) (s : State) : State := s.dropTop.setPair q s.stackTop

/-! ## Miscellaneous (48_misc.md) -/

/-- `HALT` (R301). -/
def halt (s : State) : State := { s with halted := true }

/-- `DI`, `EI` (R303, R304). -/
def requestIme (q : ImeRequest) (s : State) : State := s.emitIme q

end Sys2Proof.Machine
end

