-- ==== Sys2Proof/Machine/Cycle.lean ====
section
/-! DEFINITION. The step cycle (30_encoding.md R110 to R116, 60_exceptions.md R327, R336): what a step does before it runs
an instruction, and where it reads the instruction from. Step.lean only calls what stands here. -/

namespace Sys2Proof.Machine

/-- The instruction whose opcode byte is at PC (R90, R111, R112): the bytes come from the address space itself (R74) at PC,
PC + 1 and PC + 2, wrapping (R36), and a read changes nothing (R62). -/
def State.nextInstr (s : State) : Instr :=
  decodeBytes (s.readByte s.pc) (s.readByte (s.pc + 1)) (s.readByte (s.pc + 2))

/-- Whether a latched fault keeps the core from running (R336, `ILLEGAL_CONTINUES` false). -/
def State.stuck (s : State) : Bool := s.fault.isSome && !s.params.illegalContinues

/-- A step of a stuck core: -1 is reported and nothing else changes (R336). -/
def State.stuckStep (s : State) : State := { s with result := { cost := -1, ime := none } }

/-- A step of a halted core: nothing is fetched, 4 is reported (R110). -/
def State.idleStep (s : State) : State := ({ s with result := StepResult.none } : State).report 4

/-- One step, in the order of R327: a latched fault, then the halted idle step, then the instruction at PC. -/
def stepWith (run : Instr → State → Result) (s : State) : Result :=
  if s.stuck then .next s.stuckStep
  else if s.halted then .next s.idleStep
  else run s.nextInstr s

/-- The state with three bytes stored at PC, PC + 1 and PC + 2, running and with no fault that stops it: the very next step
fetches them (log entry 9). -/
def State.placeAtPc (s : State) (bytes : Byte × Byte × Byte) : State :=
  match bytes with
  | (b0, b1, b2) =>
    { ((s.writeByte s.pc b0).writeByte (s.pc + 1) b1).writeByte (s.pc + 2) b2 with
      halted := false
      fault := if s.params.illegalContinues then s.fault else none }

end Sys2Proof.Machine
end

