-- ==== Sys2Proof/Machine/Alu16.lean ====
section
/-! DEFINITION. The meanings of 43_alu16.md: the 16-bit arithmetic (R201 to R205). One definition per row of the opcode table, each an effect
of Operands.lean with the row's length and cost (its `bytes`, `cycles` and `cycles_not_taken` columns; R90, R114, R369). -/

namespace Sys2Proof.Machine

/-- `INC BC`, 0x03 (R204). -/
def exec_inc_BC (s : State) : Result := complete 1 8 (incPair .BC) s

/-- `ADD HL,BC`, 0x09 (R201). -/
def exec_add_HL_BC (s : State) : Result := complete 1 8 (addToHL .BC) s

/-- `DEC BC`, 0x0B (R205). -/
def exec_dec_BC (s : State) : Result := complete 1 8 (decPair .BC) s

/-- `INC DE`, 0x13 (R204). -/
def exec_inc_DE (s : State) : Result := complete 1 8 (incPair .DE) s

/-- `ADD HL,DE`, 0x19 (R201). -/
def exec_add_HL_DE (s : State) : Result := complete 1 8 (addToHL .DE) s

/-- `DEC DE`, 0x1B (R205). -/
def exec_dec_DE (s : State) : Result := complete 1 8 (decPair .DE) s

/-- `INC HL`, 0x23 (R204). -/
def exec_inc_HL (s : State) : Result := complete 1 8 (incPair .HL) s

/-- `ADD HL,HL`, 0x29 (R201). -/
def exec_add_HL_HL (s : State) : Result := complete 1 8 (addToHL .HL) s

/-- `DEC HL`, 0x2B (R205). -/
def exec_dec_HL (s : State) : Result := complete 1 8 (decPair .HL) s

/-- `INC SP`, 0x33 (R204). -/
def exec_inc_SP (s : State) : Result := complete 1 8 (incPair .SP) s

/-- `ADD HL,SP`, 0x39 (R201). -/
def exec_add_HL_SP (s : State) : Result := complete 1 8 (addToHL .SP) s

/-- `DEC SP`, 0x3B (R205). -/
def exec_dec_SP (s : State) : Result := complete 1 8 (decPair .SP) s

/-- `ADD SP,e`, 0xE8 (R202). -/
def exec_add_SP_e (e : Byte) (s : State) : Result := complete 2 16 (addToSp e) s

/-- `LD HL,SP+e`, 0xF8 (R203). -/
def exec_ld_HL_SPplus_e (e : Byte) (s : State) : Result := complete 2 12 (loadHLSpPlus e) s

end Sys2Proof.Machine
end

