-- ==== Sys2Proof/Machine/Alu8.lean ====
section
/-! DEFINITION. The meanings of 42_alu8.md: the 8-bit arithmetic, INC, DEC, DAA and the flag instructions (R172 to R187). One definition per row of the opcode table, each an effect
of Operands.lean with the row's length and cost (its `bytes`, `cycles` and `cycles_not_taken` columns; R90, R114, R369). -/

namespace Sys2Proof.Machine

/-- `INC B`, 0x04 (R180). -/
def exec_inc_B (s : State) : Result := complete 1 4 (incOperand (.reg .B)) s

/-- `DEC B`, 0x05 (R182). -/
def exec_dec_B (s : State) : Result := complete 1 4 (decOperand (.reg .B)) s

/-- `INC C`, 0x0C (R180). -/
def exec_inc_C (s : State) : Result := complete 1 4 (incOperand (.reg .C)) s

/-- `DEC C`, 0x0D (R182). -/
def exec_dec_C (s : State) : Result := complete 1 4 (decOperand (.reg .C)) s

/-- `INC D`, 0x14 (R180). -/
def exec_inc_D (s : State) : Result := complete 1 4 (incOperand (.reg .D)) s

/-- `DEC D`, 0x15 (R182). -/
def exec_dec_D (s : State) : Result := complete 1 4 (decOperand (.reg .D)) s

/-- `INC E`, 0x1C (R180). -/
def exec_inc_E (s : State) : Result := complete 1 4 (incOperand (.reg .E)) s

/-- `DEC E`, 0x1D (R182). -/
def exec_dec_E (s : State) : Result := complete 1 4 (decOperand (.reg .E)) s

/-- `INC H`, 0x24 (R180). -/
def exec_inc_H (s : State) : Result := complete 1 4 (incOperand (.reg .H)) s

/-- `DEC H`, 0x25 (R182). -/
def exec_dec_H (s : State) : Result := complete 1 4 (decOperand (.reg .H)) s

/-- `DAA`, 0x27 (R184). -/
def exec_daa (s : State) : Result := complete 1 4 decimalAdjust s

/-- `INC L`, 0x2C (R180). -/
def exec_inc_L (s : State) : Result := complete 1 4 (incOperand (.reg .L)) s

/-- `DEC L`, 0x2D (R182). -/
def exec_dec_L (s : State) : Result := complete 1 4 (decOperand (.reg .L)) s

/-- `CPL`, 0x2F (R185). -/
def exec_cpl (s : State) : Result := complete 1 4 complementA s

/-- `INC (HL)`, 0x34 (R181). -/
def exec_inc_indHL (s : State) : Result := complete 1 12 (incOperand .indHL) s

/-- `DEC (HL)`, 0x35 (R183). -/
def exec_dec_indHL (s : State) : Result := complete 1 12 (decOperand .indHL) s

/-- `SCF`, 0x37 (R186). -/
def exec_scf (s : State) : Result := complete 1 4 setCarryFlag s

/-- `INC A`, 0x3C (R180). -/
def exec_inc_A (s : State) : Result := complete 1 4 (incOperand (.reg .A)) s

/-- `DEC A`, 0x3D (R182). -/
def exec_dec_A (s : State) : Result := complete 1 4 (decOperand (.reg .A)) s

/-- `CCF`, 0x3F (R187). -/
def exec_ccf (s : State) : Result := complete 1 4 complementCarryFlag s

/-- `ADD A,B`, 0x80 (R172). -/
def exec_add_A_B (s : State) : Result := complete 1 4 (accumulate .add (.reg .B)) s

/-- `ADD A,C`, 0x81 (R172). -/
def exec_add_A_C (s : State) : Result := complete 1 4 (accumulate .add (.reg .C)) s

/-- `ADD A,D`, 0x82 (R172). -/
def exec_add_A_D (s : State) : Result := complete 1 4 (accumulate .add (.reg .D)) s

/-- `ADD A,E`, 0x83 (R172). -/
def exec_add_A_E (s : State) : Result := complete 1 4 (accumulate .add (.reg .E)) s

/-- `ADD A,H`, 0x84 (R172). -/
def exec_add_A_H (s : State) : Result := complete 1 4 (accumulate .add (.reg .H)) s

/-- `ADD A,L`, 0x85 (R172). -/
def exec_add_A_L (s : State) : Result := complete 1 4 (accumulate .add (.reg .L)) s

/-- `ADD A,(HL)`, 0x86 (R172). -/
def exec_add_A_indHL (s : State) : Result := complete 1 8 (accumulate .add .indHL) s

/-- `ADD A,A`, 0x87 (R172). -/
def exec_add_A_A (s : State) : Result := complete 1 4 (accumulate .add (.reg .A)) s

/-- `ADC A,B`, 0x88 (R173). -/
def exec_adc_A_B (s : State) : Result := complete 1 4 (accumulate .adc (.reg .B)) s

/-- `ADC A,C`, 0x89 (R173). -/
def exec_adc_A_C (s : State) : Result := complete 1 4 (accumulate .adc (.reg .C)) s

/-- `ADC A,D`, 0x8A (R173). -/
def exec_adc_A_D (s : State) : Result := complete 1 4 (accumulate .adc (.reg .D)) s

/-- `ADC A,E`, 0x8B (R173). -/
def exec_adc_A_E (s : State) : Result := complete 1 4 (accumulate .adc (.reg .E)) s

/-- `ADC A,H`, 0x8C (R173). -/
def exec_adc_A_H (s : State) : Result := complete 1 4 (accumulate .adc (.reg .H)) s

/-- `ADC A,L`, 0x8D (R173). -/
def exec_adc_A_L (s : State) : Result := complete 1 4 (accumulate .adc (.reg .L)) s

/-- `ADC A,(HL)`, 0x8E (R173). -/
def exec_adc_A_indHL (s : State) : Result := complete 1 8 (accumulate .adc .indHL) s

/-- `ADC A,A`, 0x8F (R173). -/
def exec_adc_A_A (s : State) : Result := complete 1 4 (accumulate .adc (.reg .A)) s

/-- `SUB B`, 0x90 (R174). -/
def exec_sub_B (s : State) : Result := complete 1 4 (accumulate .sub (.reg .B)) s

/-- `SUB C`, 0x91 (R174). -/
def exec_sub_C (s : State) : Result := complete 1 4 (accumulate .sub (.reg .C)) s

/-- `SUB D`, 0x92 (R174). -/
def exec_sub_D (s : State) : Result := complete 1 4 (accumulate .sub (.reg .D)) s

/-- `SUB E`, 0x93 (R174). -/
def exec_sub_E (s : State) : Result := complete 1 4 (accumulate .sub (.reg .E)) s

/-- `SUB H`, 0x94 (R174). -/
def exec_sub_H (s : State) : Result := complete 1 4 (accumulate .sub (.reg .H)) s

/-- `SUB L`, 0x95 (R174). -/
def exec_sub_L (s : State) : Result := complete 1 4 (accumulate .sub (.reg .L)) s

/-- `SUB (HL)`, 0x96 (R174). -/
def exec_sub_indHL (s : State) : Result := complete 1 8 (accumulate .sub .indHL) s

/-- `SUB A`, 0x97 (R174). -/
def exec_sub_A (s : State) : Result := complete 1 4 (accumulate .sub (.reg .A)) s

/-- `SBC A,B`, 0x98 (R175). -/
def exec_sbc_A_B (s : State) : Result := complete 1 4 (accumulate .sbc (.reg .B)) s

/-- `SBC A,C`, 0x99 (R175). -/
def exec_sbc_A_C (s : State) : Result := complete 1 4 (accumulate .sbc (.reg .C)) s

/-- `SBC A,D`, 0x9A (R175). -/
def exec_sbc_A_D (s : State) : Result := complete 1 4 (accumulate .sbc (.reg .D)) s

/-- `SBC A,E`, 0x9B (R175). -/
def exec_sbc_A_E (s : State) : Result := complete 1 4 (accumulate .sbc (.reg .E)) s

/-- `SBC A,H`, 0x9C (R175). -/
def exec_sbc_A_H (s : State) : Result := complete 1 4 (accumulate .sbc (.reg .H)) s

/-- `SBC A,L`, 0x9D (R175). -/
def exec_sbc_A_L (s : State) : Result := complete 1 4 (accumulate .sbc (.reg .L)) s

/-- `SBC A,(HL)`, 0x9E (R175). -/
def exec_sbc_A_indHL (s : State) : Result := complete 1 8 (accumulate .sbc .indHL) s

/-- `SBC A,A`, 0x9F (R175). -/
def exec_sbc_A_A (s : State) : Result := complete 1 4 (accumulate .sbc (.reg .A)) s

/-- `AND B`, 0xA0 (R176). -/
def exec_and_B (s : State) : Result := complete 1 4 (accumulate .and (.reg .B)) s

/-- `AND C`, 0xA1 (R176). -/
def exec_and_C (s : State) : Result := complete 1 4 (accumulate .and (.reg .C)) s

/-- `AND D`, 0xA2 (R176). -/
def exec_and_D (s : State) : Result := complete 1 4 (accumulate .and (.reg .D)) s

/-- `AND E`, 0xA3 (R176). -/
def exec_and_E (s : State) : Result := complete 1 4 (accumulate .and (.reg .E)) s

/-- `AND H`, 0xA4 (R176). -/
def exec_and_H (s : State) : Result := complete 1 4 (accumulate .and (.reg .H)) s

/-- `AND L`, 0xA5 (R176). -/
def exec_and_L (s : State) : Result := complete 1 4 (accumulate .and (.reg .L)) s

/-- `AND (HL)`, 0xA6 (R176). -/
def exec_and_indHL (s : State) : Result := complete 1 8 (accumulate .and .indHL) s

/-- `AND A`, 0xA7 (R176). -/
def exec_and_A (s : State) : Result := complete 1 4 (accumulate .and (.reg .A)) s

/-- `XOR B`, 0xA8 (R177). -/
def exec_xor_B (s : State) : Result := complete 1 4 (accumulate .xor (.reg .B)) s

/-- `XOR C`, 0xA9 (R177). -/
def exec_xor_C (s : State) : Result := complete 1 4 (accumulate .xor (.reg .C)) s

/-- `XOR D`, 0xAA (R177). -/
def exec_xor_D (s : State) : Result := complete 1 4 (accumulate .xor (.reg .D)) s

/-- `XOR E`, 0xAB (R177). -/
def exec_xor_E (s : State) : Result := complete 1 4 (accumulate .xor (.reg .E)) s

/-- `XOR H`, 0xAC (R177). -/
def exec_xor_H (s : State) : Result := complete 1 4 (accumulate .xor (.reg .H)) s

/-- `XOR L`, 0xAD (R177). -/
def exec_xor_L (s : State) : Result := complete 1 4 (accumulate .xor (.reg .L)) s

/-- `XOR (HL)`, 0xAE (R177). -/
def exec_xor_indHL (s : State) : Result := complete 1 8 (accumulate .xor .indHL) s

/-- `XOR A`, 0xAF (R177). -/
def exec_xor_A (s : State) : Result := complete 1 4 (accumulate .xor (.reg .A)) s

/-- `OR B`, 0xB0 (R178). -/
def exec_or_B (s : State) : Result := complete 1 4 (accumulate .or (.reg .B)) s

/-- `OR C`, 0xB1 (R178). -/
def exec_or_C (s : State) : Result := complete 1 4 (accumulate .or (.reg .C)) s

/-- `OR D`, 0xB2 (R178). -/
def exec_or_D (s : State) : Result := complete 1 4 (accumulate .or (.reg .D)) s

/-- `OR E`, 0xB3 (R178). -/
def exec_or_E (s : State) : Result := complete 1 4 (accumulate .or (.reg .E)) s

/-- `OR H`, 0xB4 (R178). -/
def exec_or_H (s : State) : Result := complete 1 4 (accumulate .or (.reg .H)) s

/-- `OR L`, 0xB5 (R178). -/
def exec_or_L (s : State) : Result := complete 1 4 (accumulate .or (.reg .L)) s

/-- `OR (HL)`, 0xB6 (R178). -/
def exec_or_indHL (s : State) : Result := complete 1 8 (accumulate .or .indHL) s

/-- `OR A`, 0xB7 (R178). -/
def exec_or_A (s : State) : Result := complete 1 4 (accumulate .or (.reg .A)) s

/-- `CP B`, 0xB8 (R179). -/
def exec_cp_B (s : State) : Result := complete 1 4 (accumulate .cp (.reg .B)) s

/-- `CP C`, 0xB9 (R179). -/
def exec_cp_C (s : State) : Result := complete 1 4 (accumulate .cp (.reg .C)) s

/-- `CP D`, 0xBA (R179). -/
def exec_cp_D (s : State) : Result := complete 1 4 (accumulate .cp (.reg .D)) s

/-- `CP E`, 0xBB (R179). -/
def exec_cp_E (s : State) : Result := complete 1 4 (accumulate .cp (.reg .E)) s

/-- `CP H`, 0xBC (R179). -/
def exec_cp_H (s : State) : Result := complete 1 4 (accumulate .cp (.reg .H)) s

/-- `CP L`, 0xBD (R179). -/
def exec_cp_L (s : State) : Result := complete 1 4 (accumulate .cp (.reg .L)) s

/-- `CP (HL)`, 0xBE (R179). -/
def exec_cp_indHL (s : State) : Result := complete 1 8 (accumulate .cp .indHL) s

/-- `CP A`, 0xBF (R179). -/
def exec_cp_A (s : State) : Result := complete 1 4 (accumulate .cp (.reg .A)) s

/-- `ADD A,n`, 0xC6 (R172). -/
def exec_add_A_n (n : Byte) (s : State) : Result := complete 2 8 (accumulate .add (.imm n)) s

/-- `ADC A,n`, 0xCE (R173). -/
def exec_adc_A_n (n : Byte) (s : State) : Result := complete 2 8 (accumulate .adc (.imm n)) s

/-- `SUB n`, 0xD6 (R174). -/
def exec_sub_n (n : Byte) (s : State) : Result := complete 2 8 (accumulate .sub (.imm n)) s

/-- `SBC A,n`, 0xDE (R175). -/
def exec_sbc_A_n (n : Byte) (s : State) : Result := complete 2 8 (accumulate .sbc (.imm n)) s

/-- `AND n`, 0xE6 (R176). -/
def exec_and_n (n : Byte) (s : State) : Result := complete 2 8 (accumulate .and (.imm n)) s

/-- `XOR n`, 0xEE (R177). -/
def exec_xor_n (n : Byte) (s : State) : Result := complete 2 8 (accumulate .xor (.imm n)) s

/-- `OR n`, 0xF6 (R178). -/
def exec_or_n (n : Byte) (s : State) : Result := complete 2 8 (accumulate .or (.imm n)) s

/-- `CP n`, 0xFE (R179). -/
def exec_cp_n (n : Byte) (s : State) : Result := complete 2 8 (accumulate .cp (.imm n)) s

end Sys2Proof.Machine
end

