-- ==== Sys2Proof/Machine/BitOps.lean ====
section
/-! DEFINITION. The meanings of 45_bit.md: BIT, RES and SET (R250 to R252). One definition per row of the opcode table, each an effect
of Operands.lean with the row's length and cost (its `bytes`, `cycles` and `cycles_not_taken` columns; R90, R114, R369). -/

namespace Sys2Proof.Machine

/-- `BIT 0,B`, 0xCB 0x40 (R250). -/
def exec_bit_0_B (s : State) : Result := complete 2 8 (testBit 0 (.reg .B)) s

/-- `BIT 0,C`, 0xCB 0x41 (R250). -/
def exec_bit_0_C (s : State) : Result := complete 2 8 (testBit 0 (.reg .C)) s

/-- `BIT 0,D`, 0xCB 0x42 (R250). -/
def exec_bit_0_D (s : State) : Result := complete 2 8 (testBit 0 (.reg .D)) s

/-- `BIT 0,E`, 0xCB 0x43 (R250). -/
def exec_bit_0_E (s : State) : Result := complete 2 8 (testBit 0 (.reg .E)) s

/-- `BIT 0,H`, 0xCB 0x44 (R250). -/
def exec_bit_0_H (s : State) : Result := complete 2 8 (testBit 0 (.reg .H)) s

/-- `BIT 0,L`, 0xCB 0x45 (R250). -/
def exec_bit_0_L (s : State) : Result := complete 2 8 (testBit 0 (.reg .L)) s

/-- `BIT 0,(HL)`, 0xCB 0x46 (R250). -/
def exec_bit_0_indHL (s : State) : Result := complete 2 12 (testBit 0 .indHL) s

/-- `BIT 0,A`, 0xCB 0x47 (R250). -/
def exec_bit_0_A (s : State) : Result := complete 2 8 (testBit 0 (.reg .A)) s

/-- `BIT 1,B`, 0xCB 0x48 (R250). -/
def exec_bit_1_B (s : State) : Result := complete 2 8 (testBit 1 (.reg .B)) s

/-- `BIT 1,C`, 0xCB 0x49 (R250). -/
def exec_bit_1_C (s : State) : Result := complete 2 8 (testBit 1 (.reg .C)) s

/-- `BIT 1,D`, 0xCB 0x4A (R250). -/
def exec_bit_1_D (s : State) : Result := complete 2 8 (testBit 1 (.reg .D)) s

/-- `BIT 1,E`, 0xCB 0x4B (R250). -/
def exec_bit_1_E (s : State) : Result := complete 2 8 (testBit 1 (.reg .E)) s

/-- `BIT 1,H`, 0xCB 0x4C (R250). -/
def exec_bit_1_H (s : State) : Result := complete 2 8 (testBit 1 (.reg .H)) s

/-- `BIT 1,L`, 0xCB 0x4D (R250). -/
def exec_bit_1_L (s : State) : Result := complete 2 8 (testBit 1 (.reg .L)) s

/-- `BIT 1,(HL)`, 0xCB 0x4E (R250). -/
def exec_bit_1_indHL (s : State) : Result := complete 2 12 (testBit 1 .indHL) s

/-- `BIT 1,A`, 0xCB 0x4F (R250). -/
def exec_bit_1_A (s : State) : Result := complete 2 8 (testBit 1 (.reg .A)) s

/-- `BIT 2,B`, 0xCB 0x50 (R250). -/
def exec_bit_2_B (s : State) : Result := complete 2 8 (testBit 2 (.reg .B)) s

/-- `BIT 2,C`, 0xCB 0x51 (R250). -/
def exec_bit_2_C (s : State) : Result := complete 2 8 (testBit 2 (.reg .C)) s

/-- `BIT 2,D`, 0xCB 0x52 (R250). -/
def exec_bit_2_D (s : State) : Result := complete 2 8 (testBit 2 (.reg .D)) s

/-- `BIT 2,E`, 0xCB 0x53 (R250). -/
def exec_bit_2_E (s : State) : Result := complete 2 8 (testBit 2 (.reg .E)) s

/-- `BIT 2,H`, 0xCB 0x54 (R250). -/
def exec_bit_2_H (s : State) : Result := complete 2 8 (testBit 2 (.reg .H)) s

/-- `BIT 2,L`, 0xCB 0x55 (R250). -/
def exec_bit_2_L (s : State) : Result := complete 2 8 (testBit 2 (.reg .L)) s

/-- `BIT 2,(HL)`, 0xCB 0x56 (R250). -/
def exec_bit_2_indHL (s : State) : Result := complete 2 12 (testBit 2 .indHL) s

/-- `BIT 2,A`, 0xCB 0x57 (R250). -/
def exec_bit_2_A (s : State) : Result := complete 2 8 (testBit 2 (.reg .A)) s

/-- `BIT 3,B`, 0xCB 0x58 (R250). -/
def exec_bit_3_B (s : State) : Result := complete 2 8 (testBit 3 (.reg .B)) s

/-- `BIT 3,C`, 0xCB 0x59 (R250). -/
def exec_bit_3_C (s : State) : Result := complete 2 8 (testBit 3 (.reg .C)) s

/-- `BIT 3,D`, 0xCB 0x5A (R250). -/
def exec_bit_3_D (s : State) : Result := complete 2 8 (testBit 3 (.reg .D)) s

/-- `BIT 3,E`, 0xCB 0x5B (R250). -/
def exec_bit_3_E (s : State) : Result := complete 2 8 (testBit 3 (.reg .E)) s

/-- `BIT 3,H`, 0xCB 0x5C (R250). -/
def exec_bit_3_H (s : State) : Result := complete 2 8 (testBit 3 (.reg .H)) s

/-- `BIT 3,L`, 0xCB 0x5D (R250). -/
def exec_bit_3_L (s : State) : Result := complete 2 8 (testBit 3 (.reg .L)) s

/-- `BIT 3,(HL)`, 0xCB 0x5E (R250). -/
def exec_bit_3_indHL (s : State) : Result := complete 2 12 (testBit 3 .indHL) s

/-- `BIT 3,A`, 0xCB 0x5F (R250). -/
def exec_bit_3_A (s : State) : Result := complete 2 8 (testBit 3 (.reg .A)) s

/-- `BIT 4,B`, 0xCB 0x60 (R250). -/
def exec_bit_4_B (s : State) : Result := complete 2 8 (testBit 4 (.reg .B)) s

/-- `BIT 4,C`, 0xCB 0x61 (R250). -/
def exec_bit_4_C (s : State) : Result := complete 2 8 (testBit 4 (.reg .C)) s

/-- `BIT 4,D`, 0xCB 0x62 (R250). -/
def exec_bit_4_D (s : State) : Result := complete 2 8 (testBit 4 (.reg .D)) s

/-- `BIT 4,E`, 0xCB 0x63 (R250). -/
def exec_bit_4_E (s : State) : Result := complete 2 8 (testBit 4 (.reg .E)) s

/-- `BIT 4,H`, 0xCB 0x64 (R250). -/
def exec_bit_4_H (s : State) : Result := complete 2 8 (testBit 4 (.reg .H)) s

/-- `BIT 4,L`, 0xCB 0x65 (R250). -/
def exec_bit_4_L (s : State) : Result := complete 2 8 (testBit 4 (.reg .L)) s

/-- `BIT 4,(HL)`, 0xCB 0x66 (R250). -/
def exec_bit_4_indHL (s : State) : Result := complete 2 12 (testBit 4 .indHL) s

/-- `BIT 4,A`, 0xCB 0x67 (R250). -/
def exec_bit_4_A (s : State) : Result := complete 2 8 (testBit 4 (.reg .A)) s

/-- `BIT 5,B`, 0xCB 0x68 (R250). -/
def exec_bit_5_B (s : State) : Result := complete 2 8 (testBit 5 (.reg .B)) s

/-- `BIT 5,C`, 0xCB 0x69 (R250). -/
def exec_bit_5_C (s : State) : Result := complete 2 8 (testBit 5 (.reg .C)) s

/-- `BIT 5,D`, 0xCB 0x6A (R250). -/
def exec_bit_5_D (s : State) : Result := complete 2 8 (testBit 5 (.reg .D)) s

/-- `BIT 5,E`, 0xCB 0x6B (R250). -/
def exec_bit_5_E (s : State) : Result := complete 2 8 (testBit 5 (.reg .E)) s

/-- `BIT 5,H`, 0xCB 0x6C (R250). -/
def exec_bit_5_H (s : State) : Result := complete 2 8 (testBit 5 (.reg .H)) s

/-- `BIT 5,L`, 0xCB 0x6D (R250). -/
def exec_bit_5_L (s : State) : Result := complete 2 8 (testBit 5 (.reg .L)) s

/-- `BIT 5,(HL)`, 0xCB 0x6E (R250). -/
def exec_bit_5_indHL (s : State) : Result := complete 2 12 (testBit 5 .indHL) s

/-- `BIT 5,A`, 0xCB 0x6F (R250). -/
def exec_bit_5_A (s : State) : Result := complete 2 8 (testBit 5 (.reg .A)) s

/-- `BIT 6,B`, 0xCB 0x70 (R250). -/
def exec_bit_6_B (s : State) : Result := complete 2 8 (testBit 6 (.reg .B)) s

/-- `BIT 6,C`, 0xCB 0x71 (R250). -/
def exec_bit_6_C (s : State) : Result := complete 2 8 (testBit 6 (.reg .C)) s

/-- `BIT 6,D`, 0xCB 0x72 (R250). -/
def exec_bit_6_D (s : State) : Result := complete 2 8 (testBit 6 (.reg .D)) s

/-- `BIT 6,E`, 0xCB 0x73 (R250). -/
def exec_bit_6_E (s : State) : Result := complete 2 8 (testBit 6 (.reg .E)) s

/-- `BIT 6,H`, 0xCB 0x74 (R250). -/
def exec_bit_6_H (s : State) : Result := complete 2 8 (testBit 6 (.reg .H)) s

/-- `BIT 6,L`, 0xCB 0x75 (R250). -/
def exec_bit_6_L (s : State) : Result := complete 2 8 (testBit 6 (.reg .L)) s

/-- `BIT 6,(HL)`, 0xCB 0x76 (R250). -/
def exec_bit_6_indHL (s : State) : Result := complete 2 12 (testBit 6 .indHL) s

/-- `BIT 6,A`, 0xCB 0x77 (R250). -/
def exec_bit_6_A (s : State) : Result := complete 2 8 (testBit 6 (.reg .A)) s

/-- `BIT 7,B`, 0xCB 0x78 (R250). -/
def exec_bit_7_B (s : State) : Result := complete 2 8 (testBit 7 (.reg .B)) s

/-- `BIT 7,C`, 0xCB 0x79 (R250). -/
def exec_bit_7_C (s : State) : Result := complete 2 8 (testBit 7 (.reg .C)) s

/-- `BIT 7,D`, 0xCB 0x7A (R250). -/
def exec_bit_7_D (s : State) : Result := complete 2 8 (testBit 7 (.reg .D)) s

/-- `BIT 7,E`, 0xCB 0x7B (R250). -/
def exec_bit_7_E (s : State) : Result := complete 2 8 (testBit 7 (.reg .E)) s

/-- `BIT 7,H`, 0xCB 0x7C (R250). -/
def exec_bit_7_H (s : State) : Result := complete 2 8 (testBit 7 (.reg .H)) s

/-- `BIT 7,L`, 0xCB 0x7D (R250). -/
def exec_bit_7_L (s : State) : Result := complete 2 8 (testBit 7 (.reg .L)) s

/-- `BIT 7,(HL)`, 0xCB 0x7E (R250). -/
def exec_bit_7_indHL (s : State) : Result := complete 2 12 (testBit 7 .indHL) s

/-- `BIT 7,A`, 0xCB 0x7F (R250). -/
def exec_bit_7_A (s : State) : Result := complete 2 8 (testBit 7 (.reg .A)) s

/-- `RES 0,B`, 0xCB 0x80 (R251). -/
def exec_res_0_B (s : State) : Result := complete 2 8 (resetBit 0 (.reg .B)) s

/-- `RES 0,C`, 0xCB 0x81 (R251). -/
def exec_res_0_C (s : State) : Result := complete 2 8 (resetBit 0 (.reg .C)) s

/-- `RES 0,D`, 0xCB 0x82 (R251). -/
def exec_res_0_D (s : State) : Result := complete 2 8 (resetBit 0 (.reg .D)) s

/-- `RES 0,E`, 0xCB 0x83 (R251). -/
def exec_res_0_E (s : State) : Result := complete 2 8 (resetBit 0 (.reg .E)) s

/-- `RES 0,H`, 0xCB 0x84 (R251). -/
def exec_res_0_H (s : State) : Result := complete 2 8 (resetBit 0 (.reg .H)) s

/-- `RES 0,L`, 0xCB 0x85 (R251). -/
def exec_res_0_L (s : State) : Result := complete 2 8 (resetBit 0 (.reg .L)) s

/-- `RES 0,(HL)`, 0xCB 0x86 (R251). -/
def exec_res_0_indHL (s : State) : Result := complete 2 16 (resetBit 0 .indHL) s

/-- `RES 0,A`, 0xCB 0x87 (R251). -/
def exec_res_0_A (s : State) : Result := complete 2 8 (resetBit 0 (.reg .A)) s

/-- `RES 1,B`, 0xCB 0x88 (R251). -/
def exec_res_1_B (s : State) : Result := complete 2 8 (resetBit 1 (.reg .B)) s

/-- `RES 1,C`, 0xCB 0x89 (R251). -/
def exec_res_1_C (s : State) : Result := complete 2 8 (resetBit 1 (.reg .C)) s

/-- `RES 1,D`, 0xCB 0x8A (R251). -/
def exec_res_1_D (s : State) : Result := complete 2 8 (resetBit 1 (.reg .D)) s

/-- `RES 1,E`, 0xCB 0x8B (R251). -/
def exec_res_1_E (s : State) : Result := complete 2 8 (resetBit 1 (.reg .E)) s

/-- `RES 1,H`, 0xCB 0x8C (R251). -/
def exec_res_1_H (s : State) : Result := complete 2 8 (resetBit 1 (.reg .H)) s

/-- `RES 1,L`, 0xCB 0x8D (R251). -/
def exec_res_1_L (s : State) : Result := complete 2 8 (resetBit 1 (.reg .L)) s

/-- `RES 1,(HL)`, 0xCB 0x8E (R251). -/
def exec_res_1_indHL (s : State) : Result := complete 2 16 (resetBit 1 .indHL) s

/-- `RES 1,A`, 0xCB 0x8F (R251). -/
def exec_res_1_A (s : State) : Result := complete 2 8 (resetBit 1 (.reg .A)) s

/-- `RES 2,B`, 0xCB 0x90 (R251). -/
def exec_res_2_B (s : State) : Result := complete 2 8 (resetBit 2 (.reg .B)) s

/-- `RES 2,C`, 0xCB 0x91 (R251). -/
def exec_res_2_C (s : State) : Result := complete 2 8 (resetBit 2 (.reg .C)) s

/-- `RES 2,D`, 0xCB 0x92 (R251). -/
def exec_res_2_D (s : State) : Result := complete 2 8 (resetBit 2 (.reg .D)) s

/-- `RES 2,E`, 0xCB 0x93 (R251). -/
def exec_res_2_E (s : State) : Result := complete 2 8 (resetBit 2 (.reg .E)) s

/-- `RES 2,H`, 0xCB 0x94 (R251). -/
def exec_res_2_H (s : State) : Result := complete 2 8 (resetBit 2 (.reg .H)) s

/-- `RES 2,L`, 0xCB 0x95 (R251). -/
def exec_res_2_L (s : State) : Result := complete 2 8 (resetBit 2 (.reg .L)) s

/-- `RES 2,(HL)`, 0xCB 0x96 (R251). -/
def exec_res_2_indHL (s : State) : Result := complete 2 16 (resetBit 2 .indHL) s

/-- `RES 2,A`, 0xCB 0x97 (R251). -/
def exec_res_2_A (s : State) : Result := complete 2 8 (resetBit 2 (.reg .A)) s

/-- `RES 3,B`, 0xCB 0x98 (R251). -/
def exec_res_3_B (s : State) : Result := complete 2 8 (resetBit 3 (.reg .B)) s

/-- `RES 3,C`, 0xCB 0x99 (R251). -/
def exec_res_3_C (s : State) : Result := complete 2 8 (resetBit 3 (.reg .C)) s

/-- `RES 3,D`, 0xCB 0x9A (R251). -/
def exec_res_3_D (s : State) : Result := complete 2 8 (resetBit 3 (.reg .D)) s

/-- `RES 3,E`, 0xCB 0x9B (R251). -/
def exec_res_3_E (s : State) : Result := complete 2 8 (resetBit 3 (.reg .E)) s

/-- `RES 3,H`, 0xCB 0x9C (R251). -/
def exec_res_3_H (s : State) : Result := complete 2 8 (resetBit 3 (.reg .H)) s

/-- `RES 3,L`, 0xCB 0x9D (R251). -/
def exec_res_3_L (s : State) : Result := complete 2 8 (resetBit 3 (.reg .L)) s

/-- `RES 3,(HL)`, 0xCB 0x9E (R251). -/
def exec_res_3_indHL (s : State) : Result := complete 2 16 (resetBit 3 .indHL) s

/-- `RES 3,A`, 0xCB 0x9F (R251). -/
def exec_res_3_A (s : State) : Result := complete 2 8 (resetBit 3 (.reg .A)) s

/-- `RES 4,B`, 0xCB 0xA0 (R251). -/
def exec_res_4_B (s : State) : Result := complete 2 8 (resetBit 4 (.reg .B)) s

/-- `RES 4,C`, 0xCB 0xA1 (R251). -/
def exec_res_4_C (s : State) : Result := complete 2 8 (resetBit 4 (.reg .C)) s

/-- `RES 4,D`, 0xCB 0xA2 (R251). -/
def exec_res_4_D (s : State) : Result := complete 2 8 (resetBit 4 (.reg .D)) s

/-- `RES 4,E`, 0xCB 0xA3 (R251). -/
def exec_res_4_E (s : State) : Result := complete 2 8 (resetBit 4 (.reg .E)) s

/-- `RES 4,H`, 0xCB 0xA4 (R251). -/
def exec_res_4_H (s : State) : Result := complete 2 8 (resetBit 4 (.reg .H)) s

/-- `RES 4,L`, 0xCB 0xA5 (R251). -/
def exec_res_4_L (s : State) : Result := complete 2 8 (resetBit 4 (.reg .L)) s

/-- `RES 4,(HL)`, 0xCB 0xA6 (R251). -/
def exec_res_4_indHL (s : State) : Result := complete 2 16 (resetBit 4 .indHL) s

/-- `RES 4,A`, 0xCB 0xA7 (R251). -/
def exec_res_4_A (s : State) : Result := complete 2 8 (resetBit 4 (.reg .A)) s

/-- `RES 5,B`, 0xCB 0xA8 (R251). -/
def exec_res_5_B (s : State) : Result := complete 2 8 (resetBit 5 (.reg .B)) s

/-- `RES 5,C`, 0xCB 0xA9 (R251). -/
def exec_res_5_C (s : State) : Result := complete 2 8 (resetBit 5 (.reg .C)) s

/-- `RES 5,D`, 0xCB 0xAA (R251). -/
def exec_res_5_D (s : State) : Result := complete 2 8 (resetBit 5 (.reg .D)) s

/-- `RES 5,E`, 0xCB 0xAB (R251). -/
def exec_res_5_E (s : State) : Result := complete 2 8 (resetBit 5 (.reg .E)) s

/-- `RES 5,H`, 0xCB 0xAC (R251). -/
def exec_res_5_H (s : State) : Result := complete 2 8 (resetBit 5 (.reg .H)) s

/-- `RES 5,L`, 0xCB 0xAD (R251). -/
def exec_res_5_L (s : State) : Result := complete 2 8 (resetBit 5 (.reg .L)) s

/-- `RES 5,(HL)`, 0xCB 0xAE (R251). -/
def exec_res_5_indHL (s : State) : Result := complete 2 16 (resetBit 5 .indHL) s

/-- `RES 5,A`, 0xCB 0xAF (R251). -/
def exec_res_5_A (s : State) : Result := complete 2 8 (resetBit 5 (.reg .A)) s

/-- `RES 6,B`, 0xCB 0xB0 (R251). -/
def exec_res_6_B (s : State) : Result := complete 2 8 (resetBit 6 (.reg .B)) s

/-- `RES 6,C`, 0xCB 0xB1 (R251). -/
def exec_res_6_C (s : State) : Result := complete 2 8 (resetBit 6 (.reg .C)) s

/-- `RES 6,D`, 0xCB 0xB2 (R251). -/
def exec_res_6_D (s : State) : Result := complete 2 8 (resetBit 6 (.reg .D)) s

/-- `RES 6,E`, 0xCB 0xB3 (R251). -/
def exec_res_6_E (s : State) : Result := complete 2 8 (resetBit 6 (.reg .E)) s

/-- `RES 6,H`, 0xCB 0xB4 (R251). -/
def exec_res_6_H (s : State) : Result := complete 2 8 (resetBit 6 (.reg .H)) s

/-- `RES 6,L`, 0xCB 0xB5 (R251). -/
def exec_res_6_L (s : State) : Result := complete 2 8 (resetBit 6 (.reg .L)) s

/-- `RES 6,(HL)`, 0xCB 0xB6 (R251). -/
def exec_res_6_indHL (s : State) : Result := complete 2 16 (resetBit 6 .indHL) s

/-- `RES 6,A`, 0xCB 0xB7 (R251). -/
def exec_res_6_A (s : State) : Result := complete 2 8 (resetBit 6 (.reg .A)) s

/-- `RES 7,B`, 0xCB 0xB8 (R251). -/
def exec_res_7_B (s : State) : Result := complete 2 8 (resetBit 7 (.reg .B)) s

/-- `RES 7,C`, 0xCB 0xB9 (R251). -/
def exec_res_7_C (s : State) : Result := complete 2 8 (resetBit 7 (.reg .C)) s

/-- `RES 7,D`, 0xCB 0xBA (R251). -/
def exec_res_7_D (s : State) : Result := complete 2 8 (resetBit 7 (.reg .D)) s

/-- `RES 7,E`, 0xCB 0xBB (R251). -/
def exec_res_7_E (s : State) : Result := complete 2 8 (resetBit 7 (.reg .E)) s

/-- `RES 7,H`, 0xCB 0xBC (R251). -/
def exec_res_7_H (s : State) : Result := complete 2 8 (resetBit 7 (.reg .H)) s

/-- `RES 7,L`, 0xCB 0xBD (R251). -/
def exec_res_7_L (s : State) : Result := complete 2 8 (resetBit 7 (.reg .L)) s

/-- `RES 7,(HL)`, 0xCB 0xBE (R251). -/
def exec_res_7_indHL (s : State) : Result := complete 2 16 (resetBit 7 .indHL) s

/-- `RES 7,A`, 0xCB 0xBF (R251). -/
def exec_res_7_A (s : State) : Result := complete 2 8 (resetBit 7 (.reg .A)) s

/-- `SET 0,B`, 0xCB 0xC0 (R252). -/
def exec_set_0_B (s : State) : Result := complete 2 8 (setBit 0 (.reg .B)) s

/-- `SET 0,C`, 0xCB 0xC1 (R252). -/
def exec_set_0_C (s : State) : Result := complete 2 8 (setBit 0 (.reg .C)) s

/-- `SET 0,D`, 0xCB 0xC2 (R252). -/
def exec_set_0_D (s : State) : Result := complete 2 8 (setBit 0 (.reg .D)) s

/-- `SET 0,E`, 0xCB 0xC3 (R252). -/
def exec_set_0_E (s : State) : Result := complete 2 8 (setBit 0 (.reg .E)) s

/-- `SET 0,H`, 0xCB 0xC4 (R252). -/
def exec_set_0_H (s : State) : Result := complete 2 8 (setBit 0 (.reg .H)) s

/-- `SET 0,L`, 0xCB 0xC5 (R252). -/
def exec_set_0_L (s : State) : Result := complete 2 8 (setBit 0 (.reg .L)) s

/-- `SET 0,(HL)`, 0xCB 0xC6 (R252). -/
def exec_set_0_indHL (s : State) : Result := complete 2 16 (setBit 0 .indHL) s

/-- `SET 0,A`, 0xCB 0xC7 (R252). -/
def exec_set_0_A (s : State) : Result := complete 2 8 (setBit 0 (.reg .A)) s

/-- `SET 1,B`, 0xCB 0xC8 (R252). -/
def exec_set_1_B (s : State) : Result := complete 2 8 (setBit 1 (.reg .B)) s

/-- `SET 1,C`, 0xCB 0xC9 (R252). -/
def exec_set_1_C (s : State) : Result := complete 2 8 (setBit 1 (.reg .C)) s

/-- `SET 1,D`, 0xCB 0xCA (R252). -/
def exec_set_1_D (s : State) : Result := complete 2 8 (setBit 1 (.reg .D)) s

/-- `SET 1,E`, 0xCB 0xCB (R252). -/
def exec_set_1_E (s : State) : Result := complete 2 8 (setBit 1 (.reg .E)) s

/-- `SET 1,H`, 0xCB 0xCC (R252). -/
def exec_set_1_H (s : State) : Result := complete 2 8 (setBit 1 (.reg .H)) s

/-- `SET 1,L`, 0xCB 0xCD (R252). -/
def exec_set_1_L (s : State) : Result := complete 2 8 (setBit 1 (.reg .L)) s

/-- `SET 1,(HL)`, 0xCB 0xCE (R252). -/
def exec_set_1_indHL (s : State) : Result := complete 2 16 (setBit 1 .indHL) s

/-- `SET 1,A`, 0xCB 0xCF (R252). -/
def exec_set_1_A (s : State) : Result := complete 2 8 (setBit 1 (.reg .A)) s

/-- `SET 2,B`, 0xCB 0xD0 (R252). -/
def exec_set_2_B (s : State) : Result := complete 2 8 (setBit 2 (.reg .B)) s

/-- `SET 2,C`, 0xCB 0xD1 (R252). -/
def exec_set_2_C (s : State) : Result := complete 2 8 (setBit 2 (.reg .C)) s

/-- `SET 2,D`, 0xCB 0xD2 (R252). -/
def exec_set_2_D (s : State) : Result := complete 2 8 (setBit 2 (.reg .D)) s

/-- `SET 2,E`, 0xCB 0xD3 (R252). -/
def exec_set_2_E (s : State) : Result := complete 2 8 (setBit 2 (.reg .E)) s

/-- `SET 2,H`, 0xCB 0xD4 (R252). -/
def exec_set_2_H (s : State) : Result := complete 2 8 (setBit 2 (.reg .H)) s

/-- `SET 2,L`, 0xCB 0xD5 (R252). -/
def exec_set_2_L (s : State) : Result := complete 2 8 (setBit 2 (.reg .L)) s

/-- `SET 2,(HL)`, 0xCB 0xD6 (R252). -/
def exec_set_2_indHL (s : State) : Result := complete 2 16 (setBit 2 .indHL) s

/-- `SET 2,A`, 0xCB 0xD7 (R252). -/
def exec_set_2_A (s : State) : Result := complete 2 8 (setBit 2 (.reg .A)) s

/-- `SET 3,B`, 0xCB 0xD8 (R252). -/
def exec_set_3_B (s : State) : Result := complete 2 8 (setBit 3 (.reg .B)) s

/-- `SET 3,C`, 0xCB 0xD9 (R252). -/
def exec_set_3_C (s : State) : Result := complete 2 8 (setBit 3 (.reg .C)) s

/-- `SET 3,D`, 0xCB 0xDA (R252). -/
def exec_set_3_D (s : State) : Result := complete 2 8 (setBit 3 (.reg .D)) s

/-- `SET 3,E`, 0xCB 0xDB (R252). -/
def exec_set_3_E (s : State) : Result := complete 2 8 (setBit 3 (.reg .E)) s

/-- `SET 3,H`, 0xCB 0xDC (R252). -/
def exec_set_3_H (s : State) : Result := complete 2 8 (setBit 3 (.reg .H)) s

/-- `SET 3,L`, 0xCB 0xDD (R252). -/
def exec_set_3_L (s : State) : Result := complete 2 8 (setBit 3 (.reg .L)) s

/-- `SET 3,(HL)`, 0xCB 0xDE (R252). -/
def exec_set_3_indHL (s : State) : Result := complete 2 16 (setBit 3 .indHL) s

/-- `SET 3,A`, 0xCB 0xDF (R252). -/
def exec_set_3_A (s : State) : Result := complete 2 8 (setBit 3 (.reg .A)) s

/-- `SET 4,B`, 0xCB 0xE0 (R252). -/
def exec_set_4_B (s : State) : Result := complete 2 8 (setBit 4 (.reg .B)) s

/-- `SET 4,C`, 0xCB 0xE1 (R252). -/
def exec_set_4_C (s : State) : Result := complete 2 8 (setBit 4 (.reg .C)) s

/-- `SET 4,D`, 0xCB 0xE2 (R252). -/
def exec_set_4_D (s : State) : Result := complete 2 8 (setBit 4 (.reg .D)) s

/-- `SET 4,E`, 0xCB 0xE3 (R252). -/
def exec_set_4_E (s : State) : Result := complete 2 8 (setBit 4 (.reg .E)) s

/-- `SET 4,H`, 0xCB 0xE4 (R252). -/
def exec_set_4_H (s : State) : Result := complete 2 8 (setBit 4 (.reg .H)) s

/-- `SET 4,L`, 0xCB 0xE5 (R252). -/
def exec_set_4_L (s : State) : Result := complete 2 8 (setBit 4 (.reg .L)) s

/-- `SET 4,(HL)`, 0xCB 0xE6 (R252). -/
def exec_set_4_indHL (s : State) : Result := complete 2 16 (setBit 4 .indHL) s

/-- `SET 4,A`, 0xCB 0xE7 (R252). -/
def exec_set_4_A (s : State) : Result := complete 2 8 (setBit 4 (.reg .A)) s

/-- `SET 5,B`, 0xCB 0xE8 (R252). -/
def exec_set_5_B (s : State) : Result := complete 2 8 (setBit 5 (.reg .B)) s

/-- `SET 5,C`, 0xCB 0xE9 (R252). -/
def exec_set_5_C (s : State) : Result := complete 2 8 (setBit 5 (.reg .C)) s

/-- `SET 5,D`, 0xCB 0xEA (R252). -/
def exec_set_5_D (s : State) : Result := complete 2 8 (setBit 5 (.reg .D)) s

/-- `SET 5,E`, 0xCB 0xEB (R252). -/
def exec_set_5_E (s : State) : Result := complete 2 8 (setBit 5 (.reg .E)) s

/-- `SET 5,H`, 0xCB 0xEC (R252). -/
def exec_set_5_H (s : State) : Result := complete 2 8 (setBit 5 (.reg .H)) s

/-- `SET 5,L`, 0xCB 0xED (R252). -/
def exec_set_5_L (s : State) : Result := complete 2 8 (setBit 5 (.reg .L)) s

/-- `SET 5,(HL)`, 0xCB 0xEE (R252). -/
def exec_set_5_indHL (s : State) : Result := complete 2 16 (setBit 5 .indHL) s

/-- `SET 5,A`, 0xCB 0xEF (R252). -/
def exec_set_5_A (s : State) : Result := complete 2 8 (setBit 5 (.reg .A)) s

/-- `SET 6,B`, 0xCB 0xF0 (R252). -/
def exec_set_6_B (s : State) : Result := complete 2 8 (setBit 6 (.reg .B)) s

/-- `SET 6,C`, 0xCB 0xF1 (R252). -/
def exec_set_6_C (s : State) : Result := complete 2 8 (setBit 6 (.reg .C)) s

/-- `SET 6,D`, 0xCB 0xF2 (R252). -/
def exec_set_6_D (s : State) : Result := complete 2 8 (setBit 6 (.reg .D)) s

/-- `SET 6,E`, 0xCB 0xF3 (R252). -/
def exec_set_6_E (s : State) : Result := complete 2 8 (setBit 6 (.reg .E)) s

/-- `SET 6,H`, 0xCB 0xF4 (R252). -/
def exec_set_6_H (s : State) : Result := complete 2 8 (setBit 6 (.reg .H)) s

/-- `SET 6,L`, 0xCB 0xF5 (R252). -/
def exec_set_6_L (s : State) : Result := complete 2 8 (setBit 6 (.reg .L)) s

/-- `SET 6,(HL)`, 0xCB 0xF6 (R252). -/
def exec_set_6_indHL (s : State) : Result := complete 2 16 (setBit 6 .indHL) s

/-- `SET 6,A`, 0xCB 0xF7 (R252). -/
def exec_set_6_A (s : State) : Result := complete 2 8 (setBit 6 (.reg .A)) s

/-- `SET 7,B`, 0xCB 0xF8 (R252). -/
def exec_set_7_B (s : State) : Result := complete 2 8 (setBit 7 (.reg .B)) s

/-- `SET 7,C`, 0xCB 0xF9 (R252). -/
def exec_set_7_C (s : State) : Result := complete 2 8 (setBit 7 (.reg .C)) s

/-- `SET 7,D`, 0xCB 0xFA (R252). -/
def exec_set_7_D (s : State) : Result := complete 2 8 (setBit 7 (.reg .D)) s

/-- `SET 7,E`, 0xCB 0xFB (R252). -/
def exec_set_7_E (s : State) : Result := complete 2 8 (setBit 7 (.reg .E)) s

/-- `SET 7,H`, 0xCB 0xFC (R252). -/
def exec_set_7_H (s : State) : Result := complete 2 8 (setBit 7 (.reg .H)) s

/-- `SET 7,L`, 0xCB 0xFD (R252). -/
def exec_set_7_L (s : State) : Result := complete 2 8 (setBit 7 (.reg .L)) s

/-- `SET 7,(HL)`, 0xCB 0xFE (R252). -/
def exec_set_7_indHL (s : State) : Result := complete 2 16 (setBit 7 .indHL) s

/-- `SET 7,A`, 0xCB 0xFF (R252). -/
def exec_set_7_A (s : State) : Result := complete 2 8 (setBit 7 (.reg .A)) s

end Sys2Proof.Machine
end

