-- ==== Sys2Proof/Machine/Control.lean ====
section
/-! DEFINITION. The meanings of 46_control.md: control transfer (R261 to R271). One definition per row of the opcode table, each an effect
of Operands.lean with the row's length and cost (its `bytes`, `cycles` and `cycles_not_taken` columns; R90, R114, R369). -/

namespace Sys2Proof.Machine

/-- `JR e`, 0x18 (R264). -/
def exec_jr_e (e : Byte) (s : State) : Result := complete 2 12 (jumpRelative e) s

/-- `JR NZ,e`, 0x20 (R265). -/
def exec_jr_NZ_e (e : Byte) (s : State) : Result := completeIf (s.cond .NZ) 2 12 8 (jumpRelative e) s

/-- `JR Z,e`, 0x28 (R265). -/
def exec_jr_Z_e (e : Byte) (s : State) : Result := completeIf (s.cond .Z) 2 12 8 (jumpRelative e) s

/-- `JR NC,e`, 0x30 (R265). -/
def exec_jr_NC_e (e : Byte) (s : State) : Result := completeIf (s.cond .NC) 2 12 8 (jumpRelative e) s

/-- `JR C,e`, 0x38 (R265). -/
def exec_jr_C_e (e : Byte) (s : State) : Result := completeIf (s.cond .C) 2 12 8 (jumpRelative e) s

/-- `RET NZ`, 0xC0 (R269). -/
def exec_ret_NZ (s : State) : Result := completeIf (s.cond .NZ) 1 20 8 ret s

/-- `JP NZ,nn`, 0xC2 (R262). -/
def exec_jp_NZ_nn (nn : Word) (s : State) : Result := completeIf (s.cond .NZ) 3 16 12 (jump nn) s

/-- `JP nn`, 0xC3 (R261). -/
def exec_jp_nn (nn : Word) (s : State) : Result := complete 3 16 (jump nn) s

/-- `CALL NZ,nn`, 0xC4 (R267). -/
def exec_call_NZ_nn (nn : Word) (s : State) : Result := completeIf (s.cond .NZ) 3 24 12 (call nn) s

/-- `RST 0x00`, 0xC7 (R271). -/
def exec_rst_00 (s : State) : Result := complete 1 16 (call 0x00#16) s

/-- `RET Z`, 0xC8 (R269). -/
def exec_ret_Z (s : State) : Result := completeIf (s.cond .Z) 1 20 8 ret s

/-- `RET`, 0xC9 (R268). -/
def exec_ret (s : State) : Result := complete 1 16 ret s

/-- `JP Z,nn`, 0xCA (R262). -/
def exec_jp_Z_nn (nn : Word) (s : State) : Result := completeIf (s.cond .Z) 3 16 12 (jump nn) s

/-- `CALL Z,nn`, 0xCC (R267). -/
def exec_call_Z_nn (nn : Word) (s : State) : Result := completeIf (s.cond .Z) 3 24 12 (call nn) s

/-- `CALL nn`, 0xCD (R266). -/
def exec_call_nn (nn : Word) (s : State) : Result := complete 3 24 (call nn) s

/-- `RST 0x08`, 0xCF (R271). -/
def exec_rst_08 (s : State) : Result := complete 1 16 (call 0x08#16) s

/-- `RET NC`, 0xD0 (R269). -/
def exec_ret_NC (s : State) : Result := completeIf (s.cond .NC) 1 20 8 ret s

/-- `JP NC,nn`, 0xD2 (R262). -/
def exec_jp_NC_nn (nn : Word) (s : State) : Result := completeIf (s.cond .NC) 3 16 12 (jump nn) s

/-- `CALL NC,nn`, 0xD4 (R267). -/
def exec_call_NC_nn (nn : Word) (s : State) : Result := completeIf (s.cond .NC) 3 24 12 (call nn) s

/-- `RST 0x10`, 0xD7 (R271). -/
def exec_rst_10 (s : State) : Result := complete 1 16 (call 0x10#16) s

/-- `RET C`, 0xD8 (R269). -/
def exec_ret_C (s : State) : Result := completeIf (s.cond .C) 1 20 8 ret s

/-- `RETI`, 0xD9 (R270). -/
def exec_reti (s : State) : Result := complete 1 16 retEnable s

/-- `JP C,nn`, 0xDA (R262). -/
def exec_jp_C_nn (nn : Word) (s : State) : Result := completeIf (s.cond .C) 3 16 12 (jump nn) s

/-- `CALL C,nn`, 0xDC (R267). -/
def exec_call_C_nn (nn : Word) (s : State) : Result := completeIf (s.cond .C) 3 24 12 (call nn) s

/-- `RST 0x18`, 0xDF (R271). -/
def exec_rst_18 (s : State) : Result := complete 1 16 (call 0x18#16) s

/-- `RST 0x20`, 0xE7 (R271). -/
def exec_rst_20 (s : State) : Result := complete 1 16 (call 0x20#16) s

/-- `JP HL`, 0xE9 (R263). -/
def exec_jp_HL (s : State) : Result := complete 1 4 jumpHL s

/-- `RST 0x28`, 0xEF (R271). -/
def exec_rst_28 (s : State) : Result := complete 1 16 (call 0x28#16) s

/-- `RST 0x30`, 0xF7 (R271). -/
def exec_rst_30 (s : State) : Result := complete 1 16 (call 0x30#16) s

/-- `RST 0x38`, 0xFF (R271). -/
def exec_rst_38 (s : State) : Result := complete 1 16 (call 0x38#16) s

end Sys2Proof.Machine
end

