-- ==== Sys2Proof/Machine/Loads.lean ====
section
/-! DEFINITION. The meanings of 41_loads.md: the loads (R130 to R149). One definition per row of the opcode table, each an effect
of Operands.lean with the row's length and cost (its `bytes`, `cycles` and `cycles_not_taken` columns; R90, R114, R369). -/

namespace Sys2Proof.Machine

/-- `LD BC,nn`, 0x01 (R147). -/
def exec_ld_BC_nn (nn : Word) (s : State) : Result := complete 3 12 (loadPair .BC nn) s

/-- `LD (BC),A`, 0x02 (R136). -/
def exec_ld_indBC_A (s : State) : Result := complete 1 8 (storeAPair .BC) s

/-- `LD B,n`, 0x06 (R133). -/
def exec_ld_B_n (n : Byte) (s : State) : Result := complete 2 8 (loadImmediate (.reg .B) n) s

/-- `LD (nn),SP`, 0x08 (R148). -/
def exec_ld_ind_nn_SP (nn : Word) (s : State) : Result := complete 3 20 (storeSp nn) s

/-- `LD A,(BC)`, 0x0A (R135). -/
def exec_ld_A_indBC (s : State) : Result := complete 1 8 (loadAPair .BC) s

/-- `LD C,n`, 0x0E (R133). -/
def exec_ld_C_n (n : Byte) (s : State) : Result := complete 2 8 (loadImmediate (.reg .C) n) s

/-- `LD DE,nn`, 0x11 (R147). -/
def exec_ld_DE_nn (nn : Word) (s : State) : Result := complete 3 12 (loadPair .DE nn) s

/-- `LD (DE),A`, 0x12 (R136). -/
def exec_ld_indDE_A (s : State) : Result := complete 1 8 (storeAPair .DE) s

/-- `LD D,n`, 0x16 (R133). -/
def exec_ld_D_n (n : Byte) (s : State) : Result := complete 2 8 (loadImmediate (.reg .D) n) s

/-- `LD A,(DE)`, 0x1A (R135). -/
def exec_ld_A_indDE (s : State) : Result := complete 1 8 (loadAPair .DE) s

/-- `LD E,n`, 0x1E (R133). -/
def exec_ld_E_n (n : Byte) (s : State) : Result := complete 2 8 (loadImmediate (.reg .E) n) s

/-- `LD HL,nn`, 0x21 (R147). -/
def exec_ld_HL_nn (nn : Word) (s : State) : Result := complete 3 12 (loadPair .HL nn) s

/-- `LD (HL+),A`, 0x22 (R145). -/
def exec_ld_indHLI_A (s : State) : Result := complete 1 8 (storeAMoveHL 1) s

/-- `LD H,n`, 0x26 (R133). -/
def exec_ld_H_n (n : Byte) (s : State) : Result := complete 2 8 (loadImmediate (.reg .H) n) s

/-- `LD A,(HL+)`, 0x2A (R143). -/
def exec_ld_A_indHLI (s : State) : Result := complete 1 8 (loadAMoveHL 1) s

/-- `LD L,n`, 0x2E (R133). -/
def exec_ld_L_n (n : Byte) (s : State) : Result := complete 2 8 (loadImmediate (.reg .L) n) s

/-- `LD SP,nn`, 0x31 (R147). -/
def exec_ld_SP_nn (nn : Word) (s : State) : Result := complete 3 12 (loadPair .SP nn) s

/-- `LD (HL-),A`, 0x32 (R146). -/
def exec_ld_indHLD_A (s : State) : Result := complete 1 8 (storeAMoveHL (-1)) s

/-- `LD (HL),n`, 0x36 (R134). -/
def exec_ld_indHL_n (n : Byte) (s : State) : Result := complete 2 12 (loadImmediate .indHL n) s

/-- `LD A,(HL-)`, 0x3A (R144). -/
def exec_ld_A_indHLD (s : State) : Result := complete 1 8 (loadAMoveHL (-1)) s

/-- `LD A,n`, 0x3E (R133). -/
def exec_ld_A_n (n : Byte) (s : State) : Result := complete 2 8 (loadImmediate (.reg .A) n) s

/-- `LD B,B`, 0x40 (R130). -/
def exec_ld_B_B (s : State) : Result := complete 1 4 (copyOperand (.reg .B) (.reg .B)) s

/-- `LD B,C`, 0x41 (R130). -/
def exec_ld_B_C (s : State) : Result := complete 1 4 (copyOperand (.reg .B) (.reg .C)) s

/-- `LD B,D`, 0x42 (R130). -/
def exec_ld_B_D (s : State) : Result := complete 1 4 (copyOperand (.reg .B) (.reg .D)) s

/-- `LD B,E`, 0x43 (R130). -/
def exec_ld_B_E (s : State) : Result := complete 1 4 (copyOperand (.reg .B) (.reg .E)) s

/-- `LD B,H`, 0x44 (R130). -/
def exec_ld_B_H (s : State) : Result := complete 1 4 (copyOperand (.reg .B) (.reg .H)) s

/-- `LD B,L`, 0x45 (R130). -/
def exec_ld_B_L (s : State) : Result := complete 1 4 (copyOperand (.reg .B) (.reg .L)) s

/-- `LD B,(HL)`, 0x46 (R131). -/
def exec_ld_B_indHL (s : State) : Result := complete 1 8 (copyOperand (.reg .B) .indHL) s

/-- `LD B,A`, 0x47 (R130). -/
def exec_ld_B_A (s : State) : Result := complete 1 4 (copyOperand (.reg .B) (.reg .A)) s

/-- `LD C,B`, 0x48 (R130). -/
def exec_ld_C_B (s : State) : Result := complete 1 4 (copyOperand (.reg .C) (.reg .B)) s

/-- `LD C,C`, 0x49 (R130). -/
def exec_ld_C_C (s : State) : Result := complete 1 4 (copyOperand (.reg .C) (.reg .C)) s

/-- `LD C,D`, 0x4A (R130). -/
def exec_ld_C_D (s : State) : Result := complete 1 4 (copyOperand (.reg .C) (.reg .D)) s

/-- `LD C,E`, 0x4B (R130). -/
def exec_ld_C_E (s : State) : Result := complete 1 4 (copyOperand (.reg .C) (.reg .E)) s

/-- `LD C,H`, 0x4C (R130). -/
def exec_ld_C_H (s : State) : Result := complete 1 4 (copyOperand (.reg .C) (.reg .H)) s

/-- `LD C,L`, 0x4D (R130). -/
def exec_ld_C_L (s : State) : Result := complete 1 4 (copyOperand (.reg .C) (.reg .L)) s

/-- `LD C,(HL)`, 0x4E (R131). -/
def exec_ld_C_indHL (s : State) : Result := complete 1 8 (copyOperand (.reg .C) .indHL) s

/-- `LD C,A`, 0x4F (R130). -/
def exec_ld_C_A (s : State) : Result := complete 1 4 (copyOperand (.reg .C) (.reg .A)) s

/-- `LD D,B`, 0x50 (R130). -/
def exec_ld_D_B (s : State) : Result := complete 1 4 (copyOperand (.reg .D) (.reg .B)) s

/-- `LD D,C`, 0x51 (R130). -/
def exec_ld_D_C (s : State) : Result := complete 1 4 (copyOperand (.reg .D) (.reg .C)) s

/-- `LD D,D`, 0x52 (R130). -/
def exec_ld_D_D (s : State) : Result := complete 1 4 (copyOperand (.reg .D) (.reg .D)) s

/-- `LD D,E`, 0x53 (R130). -/
def exec_ld_D_E (s : State) : Result := complete 1 4 (copyOperand (.reg .D) (.reg .E)) s

/-- `LD D,H`, 0x54 (R130). -/
def exec_ld_D_H (s : State) : Result := complete 1 4 (copyOperand (.reg .D) (.reg .H)) s

/-- `LD D,L`, 0x55 (R130). -/
def exec_ld_D_L (s : State) : Result := complete 1 4 (copyOperand (.reg .D) (.reg .L)) s

/-- `LD D,(HL)`, 0x56 (R131). -/
def exec_ld_D_indHL (s : State) : Result := complete 1 8 (copyOperand (.reg .D) .indHL) s

/-- `LD D,A`, 0x57 (R130). -/
def exec_ld_D_A (s : State) : Result := complete 1 4 (copyOperand (.reg .D) (.reg .A)) s

/-- `LD E,B`, 0x58 (R130). -/
def exec_ld_E_B (s : State) : Result := complete 1 4 (copyOperand (.reg .E) (.reg .B)) s

/-- `LD E,C`, 0x59 (R130). -/
def exec_ld_E_C (s : State) : Result := complete 1 4 (copyOperand (.reg .E) (.reg .C)) s

/-- `LD E,D`, 0x5A (R130). -/
def exec_ld_E_D (s : State) : Result := complete 1 4 (copyOperand (.reg .E) (.reg .D)) s

/-- `LD E,E`, 0x5B (R130). -/
def exec_ld_E_E (s : State) : Result := complete 1 4 (copyOperand (.reg .E) (.reg .E)) s

/-- `LD E,H`, 0x5C (R130). -/
def exec_ld_E_H (s : State) : Result := complete 1 4 (copyOperand (.reg .E) (.reg .H)) s

/-- `LD E,L`, 0x5D (R130). -/
def exec_ld_E_L (s : State) : Result := complete 1 4 (copyOperand (.reg .E) (.reg .L)) s

/-- `LD E,(HL)`, 0x5E (R131). -/
def exec_ld_E_indHL (s : State) : Result := complete 1 8 (copyOperand (.reg .E) .indHL) s

/-- `LD E,A`, 0x5F (R130). -/
def exec_ld_E_A (s : State) : Result := complete 1 4 (copyOperand (.reg .E) (.reg .A)) s

/-- `LD H,B`, 0x60 (R130). -/
def exec_ld_H_B (s : State) : Result := complete 1 4 (copyOperand (.reg .H) (.reg .B)) s

/-- `LD H,C`, 0x61 (R130). -/
def exec_ld_H_C (s : State) : Result := complete 1 4 (copyOperand (.reg .H) (.reg .C)) s

/-- `LD H,D`, 0x62 (R130). -/
def exec_ld_H_D (s : State) : Result := complete 1 4 (copyOperand (.reg .H) (.reg .D)) s

/-- `LD H,E`, 0x63 (R130). -/
def exec_ld_H_E (s : State) : Result := complete 1 4 (copyOperand (.reg .H) (.reg .E)) s

/-- `LD H,H`, 0x64 (R130). -/
def exec_ld_H_H (s : State) : Result := complete 1 4 (copyOperand (.reg .H) (.reg .H)) s

/-- `LD H,L`, 0x65 (R130). -/
def exec_ld_H_L (s : State) : Result := complete 1 4 (copyOperand (.reg .H) (.reg .L)) s

/-- `LD H,(HL)`, 0x66 (R131). -/
def exec_ld_H_indHL (s : State) : Result := complete 1 8 (copyOperand (.reg .H) .indHL) s

/-- `LD H,A`, 0x67 (R130). -/
def exec_ld_H_A (s : State) : Result := complete 1 4 (copyOperand (.reg .H) (.reg .A)) s

/-- `LD L,B`, 0x68 (R130). -/
def exec_ld_L_B (s : State) : Result := complete 1 4 (copyOperand (.reg .L) (.reg .B)) s

/-- `LD L,C`, 0x69 (R130). -/
def exec_ld_L_C (s : State) : Result := complete 1 4 (copyOperand (.reg .L) (.reg .C)) s

/-- `LD L,D`, 0x6A (R130). -/
def exec_ld_L_D (s : State) : Result := complete 1 4 (copyOperand (.reg .L) (.reg .D)) s

/-- `LD L,E`, 0x6B (R130). -/
def exec_ld_L_E (s : State) : Result := complete 1 4 (copyOperand (.reg .L) (.reg .E)) s

/-- `LD L,H`, 0x6C (R130). -/
def exec_ld_L_H (s : State) : Result := complete 1 4 (copyOperand (.reg .L) (.reg .H)) s

/-- `LD L,L`, 0x6D (R130). -/
def exec_ld_L_L (s : State) : Result := complete 1 4 (copyOperand (.reg .L) (.reg .L)) s

/-- `LD L,(HL)`, 0x6E (R131). -/
def exec_ld_L_indHL (s : State) : Result := complete 1 8 (copyOperand (.reg .L) .indHL) s

/-- `LD L,A`, 0x6F (R130). -/
def exec_ld_L_A (s : State) : Result := complete 1 4 (copyOperand (.reg .L) (.reg .A)) s

/-- `LD (HL),B`, 0x70 (R132). -/
def exec_ld_indHL_B (s : State) : Result := complete 1 8 (copyOperand .indHL (.reg .B)) s

/-- `LD (HL),C`, 0x71 (R132). -/
def exec_ld_indHL_C (s : State) : Result := complete 1 8 (copyOperand .indHL (.reg .C)) s

/-- `LD (HL),D`, 0x72 (R132). -/
def exec_ld_indHL_D (s : State) : Result := complete 1 8 (copyOperand .indHL (.reg .D)) s

/-- `LD (HL),E`, 0x73 (R132). -/
def exec_ld_indHL_E (s : State) : Result := complete 1 8 (copyOperand .indHL (.reg .E)) s

/-- `LD (HL),H`, 0x74 (R132). -/
def exec_ld_indHL_H (s : State) : Result := complete 1 8 (copyOperand .indHL (.reg .H)) s

/-- `LD (HL),L`, 0x75 (R132). -/
def exec_ld_indHL_L (s : State) : Result := complete 1 8 (copyOperand .indHL (.reg .L)) s

/-- `LD (HL),A`, 0x77 (R132). -/
def exec_ld_indHL_A (s : State) : Result := complete 1 8 (copyOperand .indHL (.reg .A)) s

/-- `LD A,B`, 0x78 (R130). -/
def exec_ld_A_B (s : State) : Result := complete 1 4 (copyOperand (.reg .A) (.reg .B)) s

/-- `LD A,C`, 0x79 (R130). -/
def exec_ld_A_C (s : State) : Result := complete 1 4 (copyOperand (.reg .A) (.reg .C)) s

/-- `LD A,D`, 0x7A (R130). -/
def exec_ld_A_D (s : State) : Result := complete 1 4 (copyOperand (.reg .A) (.reg .D)) s

/-- `LD A,E`, 0x7B (R130). -/
def exec_ld_A_E (s : State) : Result := complete 1 4 (copyOperand (.reg .A) (.reg .E)) s

/-- `LD A,H`, 0x7C (R130). -/
def exec_ld_A_H (s : State) : Result := complete 1 4 (copyOperand (.reg .A) (.reg .H)) s

/-- `LD A,L`, 0x7D (R130). -/
def exec_ld_A_L (s : State) : Result := complete 1 4 (copyOperand (.reg .A) (.reg .L)) s

/-- `LD A,(HL)`, 0x7E (R131). -/
def exec_ld_A_indHL (s : State) : Result := complete 1 8 (copyOperand (.reg .A) .indHL) s

/-- `LD A,A`, 0x7F (R130). -/
def exec_ld_A_A (s : State) : Result := complete 1 4 (copyOperand (.reg .A) (.reg .A)) s

/-- `LDH (n),A`, 0xE0 (R140). -/
def exec_ldh_ind_n_A (n : Byte) (s : State) : Result := complete 2 12 (storeA (highPage n)) s

/-- `LD (C),A`, 0xE2 (R142). -/
def exec_ld_indC_A (s : State) : Result := complete 1 8 storeAHighC s

/-- `LD (nn),A`, 0xEA (R138). -/
def exec_ld_ind_nn_A (nn : Word) (s : State) : Result := complete 3 16 (storeA nn) s

/-- `LDH A,(n)`, 0xF0 (R139). -/
def exec_ldh_A_ind_n (n : Byte) (s : State) : Result := complete 2 12 (loadA (highPage n)) s

/-- `LD A,(C)`, 0xF2 (R141). -/
def exec_ld_A_indC (s : State) : Result := complete 1 8 loadAHighC s

/-- `LD SP,HL`, 0xF9 (R149). -/
def exec_ld_SP_HL (s : State) : Result := complete 1 8 copyHLToSp s

/-- `LD A,(nn)`, 0xFA (R137). -/
def exec_ld_A_ind_nn (nn : Word) (s : State) : Result := complete 3 16 (loadA nn) s

end Sys2Proof.Machine
end

