-- ==== Sys2Proof/Machine/Misc.lean ====
section
/-! DEFINITION. The meanings of 48_misc.md: NOP, HALT, STOP, DI and EI (R300 to R304). One definition per row of the opcode table, each an effect
of Operands.lean with the row's length and cost (its `bytes`, `cycles` and `cycles_not_taken` columns; R90, R114, R369). -/

namespace Sys2Proof.Machine

/-- `NOP`, 0x00 (R300). -/
def exec_nop (s : State) : Result := complete 1 4 id s

/-- `STOP`, 0x10 (R302). -/
def exec_stop (_x : Byte) (s : State) : Result := complete 2 4 id s

/-- `HALT`, 0x76 (R301). -/
def exec_halt (s : State) : Result := complete 1 4 halt s

/-- `DI`, 0xF3 (R303). -/
def exec_di (s : State) : Result := complete 1 4 (requestIme .off) s

/-- `EI`, 0xFB (R304). -/
def exec_ei (s : State) : Result := complete 1 4 (requestIme .on) s

end Sys2Proof.Machine
end

