-- ==== Sys2Proof/Machine/RotateShift.lean ====
section
/-! DEFINITION. The meanings of 44_rotate_shift.md: the rotates, shifts and SWAP (R220 to R232). One definition per row of the opcode table, each an effect
of Operands.lean with the row's length and cost (its `bytes`, `cycles` and `cycles_not_taken` columns; R90, R114, R369). -/

namespace Sys2Proof.Machine

/-- `RLCA`, 0x07 (R220). -/
def exec_rlca (s : State) : Result := complete 1 4 (rotateA .rlca) s

/-- `RRCA`, 0x0F (R221). -/
def exec_rrca (s : State) : Result := complete 1 4 (rotateA .rrca) s

/-- `RLA`, 0x17 (R222). -/
def exec_rla (s : State) : Result := complete 1 4 (rotateA .rla) s

/-- `RRA`, 0x1F (R223). -/
def exec_rra (s : State) : Result := complete 1 4 (rotateA .rra) s

/-- `RLC B`, 0xCB 0x00 (R225). -/
def exec_rlc_B (s : State) : Result := complete 2 8 (shiftOperand .rlc (.reg .B)) s

/-- `RLC C`, 0xCB 0x01 (R225). -/
def exec_rlc_C (s : State) : Result := complete 2 8 (shiftOperand .rlc (.reg .C)) s

/-- `RLC D`, 0xCB 0x02 (R225). -/
def exec_rlc_D (s : State) : Result := complete 2 8 (shiftOperand .rlc (.reg .D)) s

/-- `RLC E`, 0xCB 0x03 (R225). -/
def exec_rlc_E (s : State) : Result := complete 2 8 (shiftOperand .rlc (.reg .E)) s

/-- `RLC H`, 0xCB 0x04 (R225). -/
def exec_rlc_H (s : State) : Result := complete 2 8 (shiftOperand .rlc (.reg .H)) s

/-- `RLC L`, 0xCB 0x05 (R225). -/
def exec_rlc_L (s : State) : Result := complete 2 8 (shiftOperand .rlc (.reg .L)) s

/-- `RLC (HL)`, 0xCB 0x06 (R225). -/
def exec_rlc_indHL (s : State) : Result := complete 2 16 (shiftOperand .rlc .indHL) s

/-- `RLC A`, 0xCB 0x07 (R225). -/
def exec_rlc_A (s : State) : Result := complete 2 8 (shiftOperand .rlc (.reg .A)) s

/-- `RRC B`, 0xCB 0x08 (R226). -/
def exec_rrc_B (s : State) : Result := complete 2 8 (shiftOperand .rrc (.reg .B)) s

/-- `RRC C`, 0xCB 0x09 (R226). -/
def exec_rrc_C (s : State) : Result := complete 2 8 (shiftOperand .rrc (.reg .C)) s

/-- `RRC D`, 0xCB 0x0A (R226). -/
def exec_rrc_D (s : State) : Result := complete 2 8 (shiftOperand .rrc (.reg .D)) s

/-- `RRC E`, 0xCB 0x0B (R226). -/
def exec_rrc_E (s : State) : Result := complete 2 8 (shiftOperand .rrc (.reg .E)) s

/-- `RRC H`, 0xCB 0x0C (R226). -/
def exec_rrc_H (s : State) : Result := complete 2 8 (shiftOperand .rrc (.reg .H)) s

/-- `RRC L`, 0xCB 0x0D (R226). -/
def exec_rrc_L (s : State) : Result := complete 2 8 (shiftOperand .rrc (.reg .L)) s

/-- `RRC (HL)`, 0xCB 0x0E (R226). -/
def exec_rrc_indHL (s : State) : Result := complete 2 16 (shiftOperand .rrc .indHL) s

/-- `RRC A`, 0xCB 0x0F (R226). -/
def exec_rrc_A (s : State) : Result := complete 2 8 (shiftOperand .rrc (.reg .A)) s

/-- `RL B`, 0xCB 0x10 (R227). -/
def exec_rl_B (s : State) : Result := complete 2 8 (shiftOperand .rl (.reg .B)) s

/-- `RL C`, 0xCB 0x11 (R227). -/
def exec_rl_C (s : State) : Result := complete 2 8 (shiftOperand .rl (.reg .C)) s

/-- `RL D`, 0xCB 0x12 (R227). -/
def exec_rl_D (s : State) : Result := complete 2 8 (shiftOperand .rl (.reg .D)) s

/-- `RL E`, 0xCB 0x13 (R227). -/
def exec_rl_E (s : State) : Result := complete 2 8 (shiftOperand .rl (.reg .E)) s

/-- `RL H`, 0xCB 0x14 (R227). -/
def exec_rl_H (s : State) : Result := complete 2 8 (shiftOperand .rl (.reg .H)) s

/-- `RL L`, 0xCB 0x15 (R227). -/
def exec_rl_L (s : State) : Result := complete 2 8 (shiftOperand .rl (.reg .L)) s

/-- `RL (HL)`, 0xCB 0x16 (R227). -/
def exec_rl_indHL (s : State) : Result := complete 2 16 (shiftOperand .rl .indHL) s

/-- `RL A`, 0xCB 0x17 (R227). -/
def exec_rl_A (s : State) : Result := complete 2 8 (shiftOperand .rl (.reg .A)) s

/-- `RR B`, 0xCB 0x18 (R228). -/
def exec_rr_B (s : State) : Result := complete 2 8 (shiftOperand .rr (.reg .B)) s

/-- `RR C`, 0xCB 0x19 (R228). -/
def exec_rr_C (s : State) : Result := complete 2 8 (shiftOperand .rr (.reg .C)) s

/-- `RR D`, 0xCB 0x1A (R228). -/
def exec_rr_D (s : State) : Result := complete 2 8 (shiftOperand .rr (.reg .D)) s

/-- `RR E`, 0xCB 0x1B (R228). -/
def exec_rr_E (s : State) : Result := complete 2 8 (shiftOperand .rr (.reg .E)) s

/-- `RR H`, 0xCB 0x1C (R228). -/
def exec_rr_H (s : State) : Result := complete 2 8 (shiftOperand .rr (.reg .H)) s

/-- `RR L`, 0xCB 0x1D (R228). -/
def exec_rr_L (s : State) : Result := complete 2 8 (shiftOperand .rr (.reg .L)) s

/-- `RR (HL)`, 0xCB 0x1E (R228). -/
def exec_rr_indHL (s : State) : Result := complete 2 16 (shiftOperand .rr .indHL) s

/-- `RR A`, 0xCB 0x1F (R228). -/
def exec_rr_A (s : State) : Result := complete 2 8 (shiftOperand .rr (.reg .A)) s

/-- `SLA B`, 0xCB 0x20 (R229). -/
def exec_sla_B (s : State) : Result := complete 2 8 (shiftOperand .sla (.reg .B)) s

/-- `SLA C`, 0xCB 0x21 (R229). -/
def exec_sla_C (s : State) : Result := complete 2 8 (shiftOperand .sla (.reg .C)) s

/-- `SLA D`, 0xCB 0x22 (R229). -/
def exec_sla_D (s : State) : Result := complete 2 8 (shiftOperand .sla (.reg .D)) s

/-- `SLA E`, 0xCB 0x23 (R229). -/
def exec_sla_E (s : State) : Result := complete 2 8 (shiftOperand .sla (.reg .E)) s

/-- `SLA H`, 0xCB 0x24 (R229). -/
def exec_sla_H (s : State) : Result := complete 2 8 (shiftOperand .sla (.reg .H)) s

/-- `SLA L`, 0xCB 0x25 (R229). -/
def exec_sla_L (s : State) : Result := complete 2 8 (shiftOperand .sla (.reg .L)) s

/-- `SLA (HL)`, 0xCB 0x26 (R229). -/
def exec_sla_indHL (s : State) : Result := complete 2 16 (shiftOperand .sla .indHL) s

/-- `SLA A`, 0xCB 0x27 (R229). -/
def exec_sla_A (s : State) : Result := complete 2 8 (shiftOperand .sla (.reg .A)) s

/-- `SRA B`, 0xCB 0x28 (R230). -/
def exec_sra_B (s : State) : Result := complete 2 8 (shiftOperand .sra (.reg .B)) s

/-- `SRA C`, 0xCB 0x29 (R230). -/
def exec_sra_C (s : State) : Result := complete 2 8 (shiftOperand .sra (.reg .C)) s

/-- `SRA D`, 0xCB 0x2A (R230). -/
def exec_sra_D (s : State) : Result := complete 2 8 (shiftOperand .sra (.reg .D)) s

/-- `SRA E`, 0xCB 0x2B (R230). -/
def exec_sra_E (s : State) : Result := complete 2 8 (shiftOperand .sra (.reg .E)) s

/-- `SRA H`, 0xCB 0x2C (R230). -/
def exec_sra_H (s : State) : Result := complete 2 8 (shiftOperand .sra (.reg .H)) s

/-- `SRA L`, 0xCB 0x2D (R230). -/
def exec_sra_L (s : State) : Result := complete 2 8 (shiftOperand .sra (.reg .L)) s

/-- `SRA (HL)`, 0xCB 0x2E (R230). -/
def exec_sra_indHL (s : State) : Result := complete 2 16 (shiftOperand .sra .indHL) s

/-- `SRA A`, 0xCB 0x2F (R230). -/
def exec_sra_A (s : State) : Result := complete 2 8 (shiftOperand .sra (.reg .A)) s

/-- `SWAP B`, 0xCB 0x30 (R231). -/
def exec_swap_B (s : State) : Result := complete 2 8 (shiftOperand .swap (.reg .B)) s

/-- `SWAP C`, 0xCB 0x31 (R231). -/
def exec_swap_C (s : State) : Result := complete 2 8 (shiftOperand .swap (.reg .C)) s

/-- `SWAP D`, 0xCB 0x32 (R231). -/
def exec_swap_D (s : State) : Result := complete 2 8 (shiftOperand .swap (.reg .D)) s

/-- `SWAP E`, 0xCB 0x33 (R231). -/
def exec_swap_E (s : State) : Result := complete 2 8 (shiftOperand .swap (.reg .E)) s

/-- `SWAP H`, 0xCB 0x34 (R231). -/
def exec_swap_H (s : State) : Result := complete 2 8 (shiftOperand .swap (.reg .H)) s

/-- `SWAP L`, 0xCB 0x35 (R231). -/
def exec_swap_L (s : State) : Result := complete 2 8 (shiftOperand .swap (.reg .L)) s

/-- `SWAP (HL)`, 0xCB 0x36 (R231). -/
def exec_swap_indHL (s : State) : Result := complete 2 16 (shiftOperand .swap .indHL) s

/-- `SWAP A`, 0xCB 0x37 (R231). -/
def exec_swap_A (s : State) : Result := complete 2 8 (shiftOperand .swap (.reg .A)) s

/-- `SRL B`, 0xCB 0x38 (R232). -/
def exec_srl_B (s : State) : Result := complete 2 8 (shiftOperand .srl (.reg .B)) s

/-- `SRL C`, 0xCB 0x39 (R232). -/
def exec_srl_C (s : State) : Result := complete 2 8 (shiftOperand .srl (.reg .C)) s

/-- `SRL D`, 0xCB 0x3A (R232). -/
def exec_srl_D (s : State) : Result := complete 2 8 (shiftOperand .srl (.reg .D)) s

/-- `SRL E`, 0xCB 0x3B (R232). -/
def exec_srl_E (s : State) : Result := complete 2 8 (shiftOperand .srl (.reg .E)) s

/-- `SRL H`, 0xCB 0x3C (R232). -/
def exec_srl_H (s : State) : Result := complete 2 8 (shiftOperand .srl (.reg .H)) s

/-- `SRL L`, 0xCB 0x3D (R232). -/
def exec_srl_L (s : State) : Result := complete 2 8 (shiftOperand .srl (.reg .L)) s

/-- `SRL (HL)`, 0xCB 0x3E (R232). -/
def exec_srl_indHL (s : State) : Result := complete 2 16 (shiftOperand .srl .indHL) s

/-- `SRL A`, 0xCB 0x3F (R232). -/
def exec_srl_A (s : State) : Result := complete 2 8 (shiftOperand .srl (.reg .A)) s

end Sys2Proof.Machine
end

