-- ==== Sys2Proof/Machine/Stack.lean ====
section
/-! DEFINITION. The meanings of 47_stack.md: PUSH and POP (R292 to R294). One definition per row of the opcode table, each an effect
of Operands.lean with the row's length and cost (its `bytes`, `cycles` and `cycles_not_taken` columns; R90, R114, R369). -/

namespace Sys2Proof.Machine

/-- `POP BC`, 0xC1 (R293). -/
def exec_pop_BC (s : State) : Result := complete 1 12 (popPair .BC) s

/-- `PUSH BC`, 0xC5 (R292). -/
def exec_push_BC (s : State) : Result := complete 1 16 (pushPair .BC) s

/-- `POP DE`, 0xD1 (R293). -/
def exec_pop_DE (s : State) : Result := complete 1 12 (popPair .DE) s

/-- `PUSH DE`, 0xD5 (R292). -/
def exec_push_DE (s : State) : Result := complete 1 16 (pushPair .DE) s

/-- `POP HL`, 0xE1 (R293). -/
def exec_pop_HL (s : State) : Result := complete 1 12 (popPair .HL) s

/-- `PUSH HL`, 0xE5 (R292). -/
def exec_push_HL (s : State) : Result := complete 1 16 (pushPair .HL) s

/-- `POP AF`, 0xF1 (R294). -/
def exec_pop_AF (s : State) : Result := complete 1 12 (popPair .AF) s

/-- `PUSH AF`, 0xF5 (R292). -/
def exec_push_AF (s : State) : Result := complete 1 16 (pushPair .AF) s

end Sys2Proof.Machine
end

