-- ==== Sys2Proof/Machine/TableEntries.lean ====
section
/-! DEFINITION. The base table entries that are no instructions: the eleven illegal opcode values, which take the
IllegalOpcode outcome (30_encoding.md R102, 60_exceptions.md R321), and the 0xCB byte (30_encoding.md R112), which fetches
an extended opcode and runs its entry of the extended table (R101) in the same step. -/

namespace Sys2Proof.Machine

/-- The operand of an extended opcode: its low three bits `z` (R92, R224). -/
def extOperand (o2 : Byte) : Operand8 :=
  match o2.toNat % 8 with
  | 0 => .reg .B | 1 => .reg .C | 2 => .reg .D | 3 => .reg .E
  | 4 => .reg .H | 5 => .reg .L | 6 => .indHL | _ => .reg .A

/-- The rotate or shift of an extended opcode below 0x40: its `y` field (R101, R224). -/
def extShift (o2 : Byte) : ShiftOp :=
  match o2.toNat / 8 % 8 with
  | 0 => .rlc | 1 => .rrc | 2 => .rl | 3 => .rr | 4 => .sla | 5 => .sra | 6 => .swap | _ => .srl

/-- The bit index of BIT, RES and SET: the `y` field (R98). -/
def extBit (o2 : Byte) : Fin 8 := ⟨o2.toNat / 8 % 8, Nat.mod_lt _ (by decide)⟩

/-- The effect of an extended opcode by its fields: `x` = 0 rotate or shift, 1 BIT, 2 RES, 3 SET (R101). -/
def extEffect (o2 : Byte) (s : State) : State :=
  match o2.toNat / 64 with
  | 0 => shiftOperand (extShift o2) (extOperand o2) s
  | 1 => testBit (extBit o2) (extOperand o2) s
  | 2 => resetBit (extBit o2) (extOperand o2) s
  | _ => setBit (extBit o2) (extOperand o2) s

/-- The cost of an extended instruction, its first byte's fetch included: 8 for a register, 16 for `(HL)`, 12 for
`BIT b,(HL)` (R101, R112). -/
def extCost (o2 : Byte) : Nat :=
  match extOperand o2, o2.toNat / 64 with
  | .reg _, _ => 8
  | .indHL, 1 => 12
  | .indHL, _ => 16

/-- `PREFIX CB`, 0xCB (R112): `o2 <- fetch8()`, then the extended entry for `o2`, in one step with that entry's cost. -/
def exec_prefix_CB (s : State) : Result :=
  complete 2 (extCost (s.readByte (s.pc + 1))) (extEffect (s.readByte (s.pc + 1))) s

/-- 0xD3, illegal (R102, R321). -/
def exec_illegal_D3 (s : State) : Result := .next (s.raiseIllegal 0xD3)

/-- 0xDB, illegal (R102, R321). -/
def exec_illegal_DB (s : State) : Result := .next (s.raiseIllegal 0xDB)

/-- 0xDD, illegal (R102, R321). -/
def exec_illegal_DD (s : State) : Result := .next (s.raiseIllegal 0xDD)

/-- 0xE3, illegal (R102, R321). -/
def exec_illegal_E3 (s : State) : Result := .next (s.raiseIllegal 0xE3)

/-- 0xE4, illegal (R102, R321). -/
def exec_illegal_E4 (s : State) : Result := .next (s.raiseIllegal 0xE4)

/-- 0xEB, illegal (R102, R321). -/
def exec_illegal_EB (s : State) : Result := .next (s.raiseIllegal 0xEB)

/-- 0xEC, illegal (R102, R321). -/
def exec_illegal_EC (s : State) : Result := .next (s.raiseIllegal 0xEC)

/-- 0xED, illegal (R102, R321). -/
def exec_illegal_ED (s : State) : Result := .next (s.raiseIllegal 0xED)

/-- 0xF4, illegal (R102, R321). -/
def exec_illegal_F4 (s : State) : Result := .next (s.raiseIllegal 0xF4)

/-- 0xFC, illegal (R102, R321). -/
def exec_illegal_FC (s : State) : Result := .next (s.raiseIllegal 0xFC)

/-- 0xFD, illegal (R102, R321). -/
def exec_illegal_FD (s : State) : Result := .next (s.raiseIllegal 0xFD)

end Sys2Proof.Machine
end

