-- ==== Sys2Proof/Machine/Step.lean ====
section
/-! DEFINITION. One `step()` of the core (30_encoding.md R110, R111; 60_exceptions.md R327, R336), and the host's way to
place one instruction where the next step fetches. -/

namespace Sys2Proof.Machine

/-- `step()` (R110, R111, R327, R336). -/
def step (s : State) : Host.Outcome State Fault Refusal := stepWith exec s

/-- The state with the instruction of a table number stored where `step` fetches its next instruction, zeros above it
(log entries 8 and 9). -/
def State.withFetchWord (s : State) (nbits w : Nat) : State := s.placeAtPc (tableBytes nbits w)

end Sys2Proof.Machine
end

