-- ==== Sys2Proof/Machine/HostOps.lean ====
section
/-! DEFINITION. What the host can do between steps (60_exceptions.md R333): reset, loadImage, clearHalted, interruptEntry
and the snapshot. None of them is an instruction and no step calls one. -/

namespace Sys2Proof.Machine

/-- `reset(bootRomPresent)` (R360, R361, R363): every register at its value for the mode, memory and parameters kept. -/
def hostReset (bootRomPresent : Bool) (s : State) : State := State.resetTo bootRomPresent s.params s.mem

/-- The answer of `loadImage` when it refuses (R69, R320). -/
inductive LoadError where
  /-- fewer than 32768 bytes: nothing is written -/
  | imageTooShort
deriving DecidableEq, Repr

/-- Writes a list of bytes at rising addresses. -/
def Memory.fill (m : Memory) (start : Nat) : List Byte → Memory
  | [] => m
  | v :: vs => Memory.fill (m.write start v) (start + 1) vs

/-- `loadImage(bytes)` (R69): at least 32768 bytes, of which the first 32768 go to 0x0000 to 0x7FFF. -/
def loadImage (bytes : List Byte) (s : State) : Except LoadError State :=
  if bytes.length < 32768 then .error .imageTooShort
  else .ok { s with mem := s.mem.fill 0 (bytes.take 32768) }

/-- `clearHalted()` (R325). -/
def clearHalted (s : State) : State := { s with halted := false }

/-- The vectors of `interruptEntry` (R326). -/
inductive InterruptVector where
  | v40 | v48 | v50 | v58 | v60
deriving DecidableEq, Repr

/-- The address of a vector (R326). -/
def InterruptVector.address : InterruptVector → Word
  | .v40 => 0x0040 | .v48 => 0x0048 | .v50 => 0x0050 | .v58 => 0x0058 | .v60 => 0x0060

/-- `interruptEntry(v)` (R326): there is such an operation only when the parameter `INTERRUPT_ENTRY` is true. -/
def interruptEntry (v : InterruptVector) (s : State) : Option State :=
  if s.params.interruptEntry then some (s.enterInterrupt v.address) else none

/-- What the snapshot accessors return (R334). -/
structure Snapshot where
  pc : Word
  sp : Word
  af : Word
  bc : Word
  de : Word
  hl : Word
  mem : Memory
  halted : Bool
  cycleCount : Nat
  fault : Option Fault
deriving DecidableEq, Repr

/-- The snapshot (R334): it changes nothing. -/
def State.snapshot (s : State) : Snapshot :=
  { pc := s.pc, sp := s.sp, af := s.pair .AF, bc := s.pair .BC, de := s.pair .DE, hl := s.pair .HL
    mem := s.mem, halted := s.halted, cycleCount := s.cycleCount, fault := s.fault }

end Sys2Proof.Machine
end

