-- ==== Sys2Proof/Safety.lean ====
section
/-! DEFINITION. The terms the statements use: the invariant of a state, what a step left as it was (frames), what it
reported, and the encodings and costs of the spec's operand forms written from their rules. -/

namespace Sys2Proof.Machine

/-! ## The invariant -/

/-- A state of the core that a run can reach: memory in canonical form, the low nibble of F zero (R33), cycle_count within
its width (R40). -/
abbrev State.Inv (s : State) : Prop :=
  s.mem.wf ∧ s.f &&& 0x0F = 0 ∧ s.cycleCount < 2 ^ s.params.cycleCounterWidth

/-! ## Frames -/

/-- Every 8-bit register but F that is not listed is as before (F, SP and PC are spoken of by name). -/
def SameRegs (s t : State) (but : List Reg8) : Prop := ∀ r, r ∉ but → t.reg r = s.reg r

/-- Every byte of memory outside the listed addresses reads as before. -/
def SameMem (s t : State) (but : List Word) : Prop := ∀ x, x ∉ but → t.readByte x = s.readByte x

/-- The halt controller, the fault latch and the parameters are as before. -/
def SameControl (s t : State) : Prop := t.halted = s.halted ∧ t.fault = s.fault ∧ t.params = s.params

/-- The step reports this cost and request, and cycle_count takes the cost in (R114, R324, R331). -/
def Reports (s t : State) (cost : Nat) (ime : Option ImeRequest) : Prop :=
  t.result = { cost := (cost : Int), ime := ime } ∧
  t.cycleCount = (s.cycleCount + cost) % 2 ^ s.params.cycleCounterWidth

/-- PC is past an instruction of that many bytes (R36), and the step reports the cost and no request. -/
def Proceeds (s t : State) (length cost : Nat) : Prop :=
  t.pc = s.pc + BitVec.ofNat 16 length ∧ Reports s t cost none ∧ SameControl s t

/-- The four flags have these values and the low nibble of F is zero (R33, R34). -/
def FlagsAre (t : State) (z n h c : Bool) : Prop :=
  t.flagZ = z ∧ t.flagN = n ∧ t.flagH = h ∧ t.flagC = c ∧ t.f &&& 0x0F = 0

/-- The operand of an `r` field now holds `v`, and no other register but F and no other byte of memory changed
(R92, R224): for `(HL)` the byte is the one at the HL the instruction started with. -/
def OperandBecomes (s t : State) (o : Operand8) (v : Byte) : Prop :=
  match o with
  | .reg r => t.reg r = v ∧ SameRegs s t [r] ∧ SameMem s t []
  | .indHL => t.readByte s.hl = v ∧ SameRegs s t [] ∧ SameMem s t [s.hl]

/-- The pair now holds `v`, and no other register but F changed (R32). -/
def PairBecomes (s t : State) (q : Pair) (v : Word) : Prop :=
  match q with
  | .BC => t.b = hiByte v ∧ t.c = loByte v ∧ SameRegs s t [.B, .C]
  | .DE => t.d = hiByte v ∧ t.e = loByte v ∧ SameRegs s t [.D, .E]
  | .HL => t.h = hiByte v ∧ t.l = loByte v ∧ SameRegs s t [.H, .L]
  | .AF => t.a = hiByte v ∧ t.f = loByte v &&& 0xF0 ∧ SameRegs s t [.A]

/-- The pair or SP now holds `v`, and no other register but F changed (R32, R93). -/
def Reg16Becomes (s t : State) (r : Reg16) (v : Word) : Prop :=
  match r with
  | .BC => PairBecomes s t .BC v ∧ t.sp = s.sp
  | .DE => PairBecomes s t .DE v ∧ t.sp = s.sp
  | .HL => PairBecomes s t .HL v ∧ t.sp = s.sp
  | .SP => t.sp = v ∧ SameRegs s t []

/-- `Push16(v)` (R290): the high byte at SP - 1, the low byte at SP - 2, no other byte of memory changed, SP down by 2. -/
def Pushed (s t : State) (v : Word) : Prop :=
  t.readByte (s.sp - 1) = hiByte v ∧ t.readByte (s.sp - 2) = loByte v ∧
  SameMem s t [s.sp - 1, s.sp - 2] ∧ t.sp = s.sp - 2

/-! ## Encodings and costs, as the rules write them -/

/-- The instruction's bytes are these, and these bytes decode to it whatever follows them (R90). -/
def Encodes (i : Instr) (bytes : List Byte) : Prop :=
  encode i = bytes ∧ ∀ rest, decode (bytes ++ rest) = .ok (i, rest)

/-- A byte written as a number. -/
def byte (n : Nat) : Byte := BitVec.ofNat 8 n

/-- The bytes of an accumulator operation (R171): `0x80 + 8·op + r'`, `0x86 + 8·op`, `0xC6 + 8·op` with the immediate. -/
def aluBytes (op : AluOp) : AluSource → List Byte
  | .reg r => [byte (0x80 + 8 * op.code + r.code)]
  | .indHL => [byte (0x86 + 8 * op.code)]
  | .imm n => [byte (0xC6 + 8 * op.code), n]

/-- The length of an accumulator operation (R171). -/
def aluLength : AluSource → Nat
  | .reg _ => 1 | .indHL => 1 | .imm _ => 2

/-- The cost of an accumulator operation (R171). -/
def aluCost : AluSource → Nat
  | .reg _ => 4 | .indHL => 8 | .imm _ => 8

/-- A cost that is one number for a register operand and another for `(HL)`. -/
def operandCost (register memory : Nat) : Operand8 → Nat
  | .reg _ => register
  | .indHL => memory

end Sys2Proof.Machine
end

