-- ==== Sys2Proof/Certificates/Slice0/Obligations.lean ====
section
/-! DEFINITION. The statements about the core, each from the numbered rules of spec/ its docstring names. Every statement
about an instruction holds in every state: no premise on the state is needed. -/

open Sys2Proof Sys2Proof.Machine

/-! ## The step cycle -/

/-- R111, R112, R327 (3): when the core runs and the bytes at PC decode to a well-formed instruction, the step is that
instruction's `exec` at that state; `exec` itself moves PC past the instruction's bytes. -/
def Obligations.StepRunsTheDecodedInstruction : Prop :=
  ∀ (s : State) (i : Instr) (rest : List Byte), s.fault = none ∨ s.params.illegalContinues = true → s.halted = false →
    decode [s.readByte s.pc, s.readByte (s.pc + 1), s.readByte (s.pc + 2)] = .ok (i, rest) → i.WellFormed →
    step s = exec i s

/-- R110: a step while halted fetches nothing, reports 4, adds 4 to cycle_count and changes nothing else. -/
def Obligations.HaltedStepIdles : Prop :=
  ∀ s : State, s.fault = none → s.halted = true → ∃ t, step s = .next t ∧ Reports s t 4 none ∧
    ({ t with result := s.result, cycleCount := s.cycleCount } : State) = s

/-- R336: with a latched fault and ILLEGAL_CONTINUES false every step reports -1 and changes nothing; with it true the core
idles or runs the instruction at PC as if there were no fault, and the fault keeps its value; reset clears it. -/
def Obligations.LatchedFaultStopsTheCore : Prop :=
  ∀ (s : State) (x : Fault), s.fault = some x →
    (s.params.illegalContinues = false →
      ∃ t, step s = .next t ∧ t.result = { cost := -1, ime := none } ∧ ({ t with result := s.result } : State) = s) ∧
    (s.params.illegalContinues = true →
      ∃ t u, step s = .next t ∧ step { s with fault := none } = .next u ∧ t.fault = some x ∧
        ({ t with fault := u.fault } : State) = u) ∧
    ∀ b, (hostReset b s).fault = none

/-- Derived from R102, R321 and R336: an illegal opcode moves PC past its byte, latches `IllegalOpcode(o)` with that byte
unless a fault is latched already, which stays (R336), and reports -1; nothing else changes, cycle_count included. That
`exec` answers this outcome as a NEXT state is the model's reading (DEDUCED, log entry 5). -/
def Obligations.IllegalOpcodeOutcome : Prop :=
  ∀ (k : IllegalRow) (s : State), Encodes (.illegal k) [k.opcode] ∧ ∃ t, exec (.illegal k) s = .next t ∧
    (s.fault = none → t.fault = some (.illegalOpcode k.opcode)) ∧ (∀ x, s.fault = some x → t.fault = some x) ∧
    t.pc = s.pc + 1 ∧ t.result = { cost := -1, ime := none } ∧
    ({ t with pc := s.pc, fault := s.fault, result := s.result } : State) = s

/-- R102: exactly the eleven listed base values decode to an illegal row, and no extended opcode does. -/
def Obligations.ExactlyElevenIllegalOpcodes : Prop :=
  (∀ o b1 b2 : Byte, (∃ k, decodeBytes o b1 b2 = .illegal k) ↔
    o ∈ ([0xD3, 0xDB, 0xDD, 0xE3, 0xE4, 0xEB, 0xEC, 0xED, 0xF4, 0xFC, 0xFD] : List Byte)) ∧
  (∀ o b1 b2 : Byte, ∀ k, decodeBytes o b1 b2 = .illegal k → k.opcode = o) ∧
  ∀ (o2 : Byte) (k : IllegalRow), extInstr o2 ≠ .illegal k

/-- Derived from R114, R115, R321, R336 and R369: every step from every state answers a next state; its cost is -1 exactly
when a latched fault stops the core or it meets an illegal opcode, else it is 4 to 24. R115 names two outcomes, a next
state or IllegalOpcode: that the illegal outcome is a next state too is the model's reading (DEDUCED, log entry 5). -/
def Obligations.EveryStepAnswersANextState : Prop :=
  ∀ s : State, ∃ t, step s = .next t ∧
    (t.result.cost = -1 ↔ (s.fault ≠ none ∧ s.params.illegalContinues = false) ∨
      (s.halted = false ∧ ∃ k, s.nextInstr = .illegal k)) ∧
    (t.result.cost ≠ -1 → 4 ≤ t.result.cost ∧ t.result.cost ≤ 24)

/-- R331: cycle_count grows by every reported cost that is not -1, at its width; reset clears it; the other host operations
leave it, but for interruptEntry, which adds its 20. -/
def Obligations.CycleCountSumsTheReportedCosts : Prop :=
  (∀ s t : State, step s = .next t →
    (0 ≤ t.result.cost → (t.cycleCount : Int) =
      (s.cycleCount + t.result.cost) % (2 ^ s.params.cycleCounterWidth : Nat)) ∧
    (t.result.cost = -1 → t.cycleCount = s.cycleCount)) ∧
  (∀ (b : Bool) (s : State), (hostReset b s).cycleCount = 0) ∧
  (∀ (bytes : List Byte) (s t : State), loadImage bytes s = .ok t → t.cycleCount = s.cycleCount) ∧
  (∀ s : State, (clearHalted s).cycleCount = s.cycleCount) ∧
  ∀ (v : InterruptVector) (s t : State), interruptEntry v s = some t →
    t.cycleCount = (s.cycleCount + 20) % 2 ^ s.params.cycleCounterWidth

/-- R40, R41, R330, R331 ("No instruction reads it"): what a step does, apart from cycle_count, is the same whatever
cycle_count holds, and, apart from both, an instruction does the same whatever the fault latch holds. -/
def Obligations.NoInstructionReadsCycleCountOrFault : Prop :=
  (∀ (s t : State) (n : Nat), step s = .next t → ∃ u, step { s with cycleCount := n } = .next u ∧
    ({ u with cycleCount := t.cycleCount } : State) = t) ∧
  ∀ (i : Instr) (s t : State) (n : Nat) (x : Option Fault), exec i s = .next t →
    ∃ u, exec i { s with cycleCount := n, fault := x } = .next u ∧
      ({ u with cycleCount := t.cycleCount, fault := t.fault } : State) = t

/-- R324: EI and RETI emit `ImeRequest(on)`, DI emits `ImeRequest(off)`, and no other instruction emits one. -/
def Obligations.OnlyEiDiRetiEmitImeRequests : Prop :=
  ∀ (i : Instr) (s t : State), exec i s = .next t →
    (t.result.ime = some .on ↔ i = .ei ∨ i = .reti) ∧ (t.result.ime = some .off ↔ i = .di)

/-- R38, R329: a step sets `halted` only by running HALT, and no step clears it. -/
def Obligations.OnlyHaltStopsTheCore : Prop :=
  ∀ s t : State, step s = .next t →
    (s.halted = true → t.halted = true) ∧
    (s.halted = false → (t.halted = true ↔
      (s.fault = none ∨ s.params.illegalContinues = true) ∧ s.nextInstr = .halt))

/-- R41, R321, R336: a step sets the fault latch only by an illegal opcode met while it is empty, and never clears or
replaces a fault; the parameters never change (R44). -/
def Obligations.OnlyIllegalOpcodesLatchAFault : Prop :=
  ∀ s t : State, step s = .next t → t.params = s.params ∧
    (∀ x, s.fault = some x → t.fault = some x) ∧
    (s.fault = none → ∀ x, t.fault = some x ↔
      s.halted = false ∧ ∃ k : IllegalRow, s.nextInstr = .illegal k ∧ x = .illegalOpcode k.opcode)

/-- R33, R40, R60: the invariant is kept by every step, from every state that meets it. -/
def Obligations.EveryStepKeepsTheInvariant : Prop :=
  ∀ s t : State, s.Inv → step s = .next t → t.Inv

/-- R45: reset in either mode leaves a state that meets the invariant when memory does, State.reset among them. -/
def Obligations.ResetMeetsTheInvariant : Prop :=
  State.reset.Inv ∧ ∀ (b : Bool) (s : State), s.mem.wf → (hostReset b s).Inv

/-- R69, R325, R326: the other host operations keep the invariant. -/
def Obligations.HostOperationsKeepTheInvariant : Prop :=
  ∀ s : State, s.Inv → (clearHalted s).Inv ∧ (∀ v t, interruptEntry v s = some t → t.Inv) ∧
    ∀ bytes t, loadImage bytes s = .ok t → t.Inv

/-! ## Reset and the host's operations -/

/-- R45, R360, R361, R363: the state after reset in each mode; memory survives. -/
def Obligations.ResetLeavesTheListedValues : Prop :=
  ∀ s : State,
    ((hostReset false s).a = 0x01 ∧ (hostReset false s).f = 0xB0 ∧ (hostReset false s).b = 0x00 ∧
      (hostReset false s).c = 0x13 ∧ (hostReset false s).d = 0x00 ∧ (hostReset false s).e = 0xD8 ∧
      (hostReset false s).h = 0x01 ∧ (hostReset false s).l = 0x4D ∧ (hostReset false s).sp = 0xFFFE ∧
      (hostReset false s).pc = 0x0100) ∧
    ((∀ r, (hostReset true s).reg r = 0) ∧ (hostReset true s).f = 0 ∧ (hostReset true s).sp = 0 ∧
      (hostReset true s).pc = 0) ∧
    ∀ b, (hostReset b s).halted = false ∧ (hostReset b s).cycleCount = 0 ∧ (hostReset b s).fault = none ∧
      SameMem s (hostReset b s) []

/-- R69: an image under 32768 bytes is refused and nothing is written; else its first 32768 bytes go to 0x0000 to 0x7FFF
and nothing else changes. -/
def Obligations.LoadImageFillsTheImageRegion : Prop :=
  ∀ (bytes : List Byte) (s : State),
    (bytes.length < 32768 → loadImage bytes s = .error .imageTooShort) ∧
    (32768 ≤ bytes.length → ∃ t, loadImage bytes s = .ok t ∧
      (∀ x : Word, x.toNat < 32768 → bytes[x.toNat]? = some (t.readByte x)) ∧
      (∀ x : Word, 32768 ≤ x.toNat → t.readByte x = s.readByte x) ∧
      ({ t with mem := s.mem } : State) = s)

/-- Derived from R325, R326 and R331: clearHalted clears `halted` and nothing else; interruptEntry exists only with the
parameter, and then does `halted <- false; Push16(pc); pc <- v`, reports 20, adds 20 to cycle_count (R331) and changes
nothing else. That the entry happens whether or not a fault is latched, and carries no request, is the model's reading
(DEDUCED, log entry 13). -/
def Obligations.ClearHaltedAndInterruptEntry : Prop :=
  (∀ s : State, (clearHalted s).halted = false ∧ ({ clearHalted s with halted := s.halted } : State) = s) ∧
  (∀ (v : InterruptVector) (s : State), s.params.interruptEntry = false → interruptEntry v s = none) ∧
  (∀ x : Word, x ∈ ([0x40, 0x48, 0x50, 0x58, 0x60] : List Word) ↔ ∃ v : InterruptVector, v.address = x) ∧
  ∀ (v : InterruptVector) (s : State), s.params.interruptEntry = true → ∃ t, interruptEntry v s = some t ∧
    t.halted = false ∧ Pushed s t s.pc ∧ t.pc = v.address ∧ Reports s t 20 none ∧
    SameRegs s t [] ∧ t.f = s.f ∧ t.fault = s.fault ∧ t.params = s.params

/-! ## Memory, pairs, flags and the stack -/

/-- R62: a read after a write gives the byte written, a write changes that byte alone and no register, and writing the
same byte again leaves the same state; a read changes nothing, since it answers no state. -/
def Obligations.MemoryReadsBackWhatWasWritten : Prop :=
  ∀ (s : State) (x : Word) (v : Byte),
    (s.writeByte x v).readByte x = v ∧ SameMem s (s.writeByte x v) [x] ∧
    ({ s.writeByte x v with mem := s.mem } : State) = s ∧
    (s.mem.wf → (s.writeByte x v).writeByte x v = s.writeByte x v)

/-- R68, D5: every content of the 65536 bytes is a memory in canonical form, so a statement about every state holds for
every draw of INITIAL_MEMORY. -/
def Obligations.EveryMemoryContentIsAState : Prop :=
  ∀ (content : Nat → Byte) (s : State), ∃ m : Memory, m.wf ∧
    ∀ x : Word, ({ s with mem := m } : State).readByte x = content x.toNat

/-- R31, R32, R33: a pair reads as its high cell times 256 plus its low cell, and a pair write sets both halves, AF's low
half without its low nibble, and nothing else. -/
def Obligations.PairsAreViewsOfTheCells : Prop :=
  (∀ s : State, (s.pair .BC).toNat = 256 * s.b.toNat + s.c.toNat ∧ (s.pair .DE).toNat = 256 * s.d.toNat + s.e.toNat ∧
    (s.pair .HL).toNat = 256 * s.h.toNat + s.l.toNat ∧ (s.pair .AF).toNat = 256 * s.a.toNat + s.f.toNat) ∧
  (∀ v : Word, (hiByte v).toNat = v.toNat / 256 ∧ (loByte v).toNat = v.toNat % 256) ∧
  (∀ (s : State) (q : Pair) (v : Word), PairBecomes s (s.setPair q v) q v ∧ (q ≠ .AF → (s.setPair q v).f = s.f) ∧
    ({ s.setPair q v with a := s.a, f := s.f, b := s.b, c := s.c, d := s.d, e := s.e, h := s.h, l := s.l } : State) = s) ∧
  ∀ (s : State) (v : Word), ((s.setPair .AF v).f.toNat = v.toNat % 256 / 16 * 16)

/-- R34, R35: each setter writes its own bit of F (Z in bit 7, N in 6, H in 5, C in 4), leaves the other three flags, and
leaves the low nibble zero. -/
def Obligations.FlagSettersWriteTheirOwnBit : Prop :=
  ∀ (s : State) (b : Bool),
    FlagsAre (s.setZero b) b s.flagN s.flagH s.flagC ∧ FlagsAre (s.setNegative b) s.flagZ b s.flagH s.flagC ∧
    FlagsAre (s.setHalfCarry b) s.flagZ s.flagN b s.flagC ∧ FlagsAre (s.setCarry b) s.flagZ s.flagN s.flagH b ∧
    (s.flagZ = true ↔ s.f.toNat / 128 % 2 = 1) ∧ (s.flagN = true ↔ s.f.toNat / 64 % 2 = 1) ∧
    (s.flagH = true ↔ s.f.toNat / 32 % 2 = 1) ∧ (s.flagC = true ↔ s.f.toNat / 16 % 2 = 1)

/-- R290, R291: Push16 stores the high byte at SP - 1 and the low byte at SP - 2 and lowers SP by 2; Pop16 returns the low
byte at SP with the high byte at SP + 1 above it and raises SP by 2; popping right after a push gives the word back. -/
def Obligations.PushAndPopSixteenBits : Prop :=
  ∀ (s : State) (v : Word), Pushed s (s.push16 v) v ∧ SameRegs s (s.push16 v) [] ∧ (s.push16 v).f = s.f ∧
    s.stackTop.toNat = 256 * (s.readByte (s.sp + 1)).toNat + (s.readByte s.sp).toNat ∧
    ({ s.dropTop with sp := s.sp } : State) = s ∧ s.dropTop.sp = s.sp + 2 ∧
    (s.push16 v).stackTop = v ∧ (s.push16 v).dropTop.sp = s.sp

/-! ## Encoding -/

/-- R90, R96, R100, R101, R106: the bytes of a well-formed instruction, followed by anything, decode to that instruction
with every immediate at its value, and leave what follows. -/
def Obligations.DecodeOfEncodeIsTheInstruction : Prop :=
  ∀ (i : Instr) (rest : List Byte), i.WellFormed → decode (encode i ++ rest) = .ok (i, rest)

/-- R90, R99: bytes have one meaning: what decodes to an instruction and a rest is that instruction's encoding followed by
that rest. -/
def Obligations.BytesHaveOneMeaning : Prop :=
  ∀ (bytes : List Byte) (i : Instr) (rest : List Byte), decode bytes = .ok (i, rest) → bytes = encode i ++ rest

/-- R90, R115: any three bytes begin with an instruction of 1 to 3 bytes whose length the first byte alone fixes, and
the core reads that instruction there. -/
def Obligations.DecodeIsTotalAndLengthsAreFixed : Prop :=
  (∀ (b0 b1 b2 : Byte) (rest : List Byte), ∃ i tail, decode (b0 :: b1 :: b2 :: rest) = .ok (i, tail) ∧
    i = decodeBytes b0 b1 b2 ∧ i.WellFormed ∧ 1 ≤ (encode i).length ∧ (encode i).length ≤ 3) ∧
  ∀ b0 b1 b2 c1 c2 : Byte, (encode (decodeBytes b0 b1 b2)).length = (encode (decodeBytes b0 c1 c2)).length

/-- R92 to R98, R103: words written out from the encodings of each family decode to the instructions they stand for. -/
def Obligations.SampleWordsOfEachFamilyDecode : Prop :=
  decode [0b01001000] = .ok (.ld_C_B, []) ∧ decode [0b00000001, 0x34, 0x12] = .ok (.ld_BC_nn 0x1234, []) ∧
  decode [0b10011100] = .ok (.sbc_A_H, []) ∧ decode [0b00100011] = .ok (.inc_HL, []) ∧
  decode [0b11001011, 0b00101110] = .ok (.sra_indHL, []) ∧ decode [0b11001011, 0b01111100] = .ok (.bit_7_H, []) ∧
  decode [0b11011010, 0x00, 0x20] = .ok (.jp_C_nn 0x2000, []) ∧ decode [0b11110101] = .ok (.push_AF, []) ∧
  decode [0b00010000, 0xCB] = .ok (.stop 0xCB, []) ∧ decode [0b11011101] = .ok (.illegal_DD, [])

/-- R112, R113: the entry PREFIX CB fetches the byte after it and does what the extended table's instruction for that byte
does, in the same step and with its cost; it always completes. -/
def Obligations.PrefixRunsTheExtendedInstruction : Prop :=
  ∀ s : State, exec .prefix_CB s = exec (extInstr (s.readByte (s.pc + 1))) s ∧ ∃ t, exec .prefix_CB s = .next t

/-! ## Loads (41_loads.md) -/

/-- R130: `LD r,r'`. -/
def Obligations.LoadRegisterFromRegister : Prop :=
  ∀ (r r' : Reg8) (s : State), Encodes (.ldRegReg r r') [byte (0x40 + 8 * r.code + r'.code)] ∧
    ∃ t, exec (.ldRegReg r r') s = .next t ∧ t.reg r = s.reg r' ∧ SameRegs s t [r] ∧ t.f = s.f ∧ t.sp = s.sp ∧
      SameMem s t [] ∧ Proceeds s t 1 4

/-- R131, R132: `LD r,(HL)` reads the byte at the HL it starts with; `LD (HL),r` stores there. -/
def Obligations.LoadAndStoreThroughHL : Prop :=
  ∀ (r : Reg8) (s : State),
    (Encodes (.ldRegIndHL r) [byte (0x46 + 8 * r.code)] ∧
      ∃ t, exec (.ldRegIndHL r) s = .next t ∧ t.reg r = s.readByte (s.pair .HL) ∧ SameRegs s t [r] ∧ t.f = s.f ∧
        t.sp = s.sp ∧ SameMem s t [] ∧ Proceeds s t 1 8) ∧
    (Encodes (.ldIndHLReg r) [byte (0x70 + r.code)] ∧
      ∃ t, exec (.ldIndHLReg r) s = .next t ∧ t.readByte (s.pair .HL) = s.reg r ∧ SameRegs s t [] ∧ t.f = s.f ∧
        t.sp = s.sp ∧ SameMem s t [s.pair .HL] ∧ Proceeds s t 1 8)

/-- R133, R134: `LD r,n` and `LD (HL),n`. -/
def Obligations.LoadImmediateByte : Prop :=
  ∀ (o : Operand8) (n : Byte) (s : State), Encodes (.ldImm o n) [byte (0x06 + 8 * o.code), n] ∧
    ∃ t, exec (.ldImm o n) s = .next t ∧ OperandBecomes s t o n ∧ t.f = s.f ∧ t.sp = s.sp ∧
      Proceeds s t 2 (operandCost 8 12 o)

/-- R135, R137, R139, R141: A from the byte at BC, DE, nn, 0xFF00 + n and 0xFF00 + C. -/
def Obligations.LoadAccumulatorFromMemory : Prop :=
  ∀ (s : State) (n : Byte) (nn : Word),
    Encodes .ld_A_indBC [0x0A] ∧ Encodes .ld_A_indDE [0x1A] ∧ Encodes (.ld_A_ind_nn nn) [0xFA, loByte nn, hiByte nn] ∧
    Encodes (.ldh_A_ind_n n) [0xF0, n] ∧ Encodes .ld_A_indC [0xF2] ∧
    ∀ i x k cost, (i, x, k, cost) ∈ ([(.ld_A_indBC, s.pair .BC, 1, 8), (.ld_A_indDE, s.pair .DE, 1, 8),
        (.ld_A_ind_nn nn, nn, 3, 16), (.ldh_A_ind_n n, 0xFF00 + n.setWidth 16, 2, 12),
        (.ld_A_indC, 0xFF00 + s.c.setWidth 16, 1, 8)] : List (Instr × Word × Nat × Nat)) →
      ∃ t, exec i s = .next t ∧ t.a = s.readByte x ∧ SameRegs s t [.A] ∧ t.f = s.f ∧ t.sp = s.sp ∧ SameMem s t [] ∧
        Proceeds s t k cost

/-- R136, R138, R140, R142: A to the byte at BC, DE, nn, 0xFF00 + n and 0xFF00 + C. -/
def Obligations.StoreAccumulatorToMemory : Prop :=
  ∀ (s : State) (n : Byte) (nn : Word),
    Encodes .ld_indBC_A [0x02] ∧ Encodes .ld_indDE_A [0x12] ∧ Encodes (.ld_ind_nn_A nn) [0xEA, loByte nn, hiByte nn] ∧
    Encodes (.ldh_ind_n_A n) [0xE0, n] ∧ Encodes .ld_indC_A [0xE2] ∧
    ∀ i x k cost, (i, x, k, cost) ∈ ([(.ld_indBC_A, s.pair .BC, 1, 8), (.ld_indDE_A, s.pair .DE, 1, 8),
        (.ld_ind_nn_A nn, nn, 3, 16), (.ldh_ind_n_A n, 0xFF00 + n.setWidth 16, 2, 12),
        (.ld_indC_A, 0xFF00 + s.c.setWidth 16, 1, 8)] : List (Instr × Word × Nat × Nat)) →
      ∃ t, exec i s = .next t ∧ t.readByte x = s.a ∧ SameRegs s t [] ∧ t.f = s.f ∧ t.sp = s.sp ∧ SameMem s t [x] ∧
        Proceeds s t k cost

/-- R143 to R146: A from or to the byte at HL, and HL then moves by one, wrapping. -/
def Obligations.LoadAndStoreMovingHL : Prop :=
  ∀ s : State,
    Encodes .ld_A_indHLI [0x2A] ∧ Encodes .ld_A_indHLD [0x3A] ∧ Encodes .ld_indHLI_A [0x22] ∧ Encodes .ld_indHLD_A [0x32] ∧
    (∀ i d, (i, d) ∈ ([(.ld_A_indHLI, 1), (.ld_A_indHLD, -1)] : List (Instr × Int)) →
      ∃ t, exec i s = .next t ∧ t.a = s.readByte (s.pair .HL) ∧
        ((t.pair .HL).toNat : Int) = ((s.pair .HL).toNat + d) % 65536 ∧ SameRegs s t [.A, .H, .L] ∧ t.f = s.f ∧
        t.sp = s.sp ∧ SameMem s t [] ∧ Proceeds s t 1 8) ∧
    (∀ i d, (i, d) ∈ ([(.ld_indHLI_A, 1), (.ld_indHLD_A, -1)] : List (Instr × Int)) →
      ∃ t, exec i s = .next t ∧ t.readByte (s.pair .HL) = s.a ∧
        ((t.pair .HL).toNat : Int) = ((s.pair .HL).toNat + d) % 65536 ∧ SameRegs s t [.H, .L] ∧ t.f = s.f ∧
        t.sp = s.sp ∧ SameMem s t [s.pair .HL] ∧ Proceeds s t 1 8)

/-- R147, R149: `LD rr,nn` and `LD SP,HL`. -/
def Obligations.LoadSixteenBitRegister : Prop :=
  (∀ (r : Reg16) (nn : Word) (s : State),
    Encodes (.ldPairImm r nn) [byte (0x01 + 16 * r.code), loByte nn, hiByte nn] ∧
    ∃ t, exec (.ldPairImm r nn) s = .next t ∧ Reg16Becomes s t r nn ∧ t.f = s.f ∧ SameMem s t [] ∧ Proceeds s t 3 12) ∧
  ∀ s : State, Encodes .ld_SP_HL [0xF9] ∧ ∃ t, exec .ld_SP_HL s = .next t ∧ t.sp = s.pair .HL ∧ SameRegs s t [] ∧
    t.f = s.f ∧ SameMem s t [] ∧ Proceeds s t 1 8

/-- R148: `LD (nn),SP` stores SP's low byte at nn and its high byte at nn + 1, wrapping. -/
def Obligations.StoreStackPointer : Prop :=
  ∀ (nn : Word) (s : State), Encodes (.ld_ind_nn_SP nn) [0x08, loByte nn, hiByte nn] ∧
    ∃ t, exec (.ld_ind_nn_SP nn) s = .next t ∧ (t.readByte nn).toNat = s.sp.toNat % 256 ∧
      (t.readByte (nn + 1)).toNat = s.sp.toNat / 256 ∧ SameRegs s t [] ∧ t.f = s.f ∧ t.sp = s.sp ∧
      SameMem s t [nn, nn + 1] ∧ Proceeds s t 3 20

/-! ## 8-bit arithmetic (42_alu8.md) -/

/-- R170 to R173: ADD and ADC: the sum modulo 256, Z, N = 0, H out of bit 3, C out of bit 7. -/
def Obligations.AddAndAddWithCarry : Prop :=
  ∀ (withCarry : Bool) (src : AluSource) (s : State),
    let op := if withCarry then AluOp.adc else AluOp.add
    let c := if withCarry then s.flagC.toNat else 0
    let v := (s.aluSource src).toNat
    Encodes (.alu op src) (aluBytes op src) ∧ ∃ t, exec (.alu op src) s = .next t ∧
      t.a.toNat = (s.a.toNat + v + c) % 256 ∧
      FlagsAre t (decide ((s.a.toNat + v + c) % 256 = 0)) false (decide (s.a.toNat % 16 + v % 16 + c > 15))
        (decide (s.a.toNat + v + c > 255)) ∧
      SameRegs s t [.A] ∧ t.sp = s.sp ∧ SameMem s t [] ∧ Proceeds s t (aluLength src) (aluCost src)

/-- R170, R171, R174, R175: SUB and SBC: the difference modulo 256, Z, N = 1, H and C the borrows. -/
def Obligations.SubtractAndSubtractWithBorrow : Prop :=
  ∀ (withCarry : Bool) (src : AluSource) (s : State),
    let op := if withCarry then AluOp.sbc else AluOp.sub
    let c := if withCarry then s.flagC.toNat else 0
    let v := (s.aluSource src).toNat
    Encodes (.alu op src) (aluBytes op src) ∧ ∃ t, exec (.alu op src) s = .next t ∧
      (t.a.toNat : Int) = ((s.a.toNat : Int) - v - c) % 256 ∧
      FlagsAre t (decide (t.a.toNat = 0)) true (decide (s.a.toNat % 16 < v % 16 + c)) (decide (s.a.toNat < v + c)) ∧
      SameRegs s t [.A] ∧ t.sp = s.sp ∧ SameMem s t [] ∧ Proceeds s t (aluLength src) (aluCost src)

/-- R171, R176 to R178: AND, XOR and OR bit by bit; Z of the result, N = 0, C = 0, H = 1 for AND only. -/
def Obligations.BitwiseLogic : Prop :=
  ∀ (op : AluOp) (f : Bool → Bool → Bool) (src : AluSource) (s : State),
    (op, f) ∈ [(AluOp.and, and), (AluOp.xor, xor), (AluOp.or, or)] →
    Encodes (.alu op src) (aluBytes op src) ∧ ∃ t, exec (.alu op src) s = .next t ∧
      (∀ k < 8, t.a.getLsbD k = f (s.a.getLsbD k) ((s.aluSource src).getLsbD k)) ∧
      FlagsAre t (decide (t.a.toNat = 0)) false (decide (op = .and)) false ∧
      SameRegs s t [.A] ∧ t.sp = s.sp ∧ SameMem s t [] ∧ Proceeds s t (aluLength src) (aluCost src)

/-- R171, R179: CP sets Z iff A equals the operand, C iff A is below it (unsigned), N = 1, H the nibble borrow, and writes
no register but F. -/
def Obligations.CompareSetsFlagsOnly : Prop :=
  ∀ (src : AluSource) (s : State), Encodes (.alu .cp src) (aluBytes .cp src) ∧
    ∃ t, exec (.alu .cp src) s = .next t ∧
      FlagsAre t (decide (s.a = s.aluSource src)) true
        (decide (s.a.toNat % 16 < (s.aluSource src).toNat % 16)) (decide (s.a.toNat < (s.aluSource src).toNat)) ∧
      SameRegs s t [] ∧ t.sp = s.sp ∧ SameMem s t [] ∧ Proceeds s t (aluLength src) (aluCost src)

/-- R180, R181: INC of a register or of the byte at HL; Z of the result, N = 0, H iff the low nibble was 15, C kept. -/
def Obligations.IncrementByte : Prop :=
  ∀ (o : Operand8) (s : State), Encodes (.inc8 o) [byte (0x04 + 8 * o.code)] ∧
    ∃ t v, exec (.inc8 o) s = .next t ∧ v.toNat = ((s.operand o).toNat + 1) % 256 ∧ OperandBecomes s t o v ∧
      FlagsAre t (decide (v.toNat = 0)) false (decide ((s.operand o).toNat % 16 = 15)) s.flagC ∧ t.sp = s.sp ∧
      Proceeds s t 1 (operandCost 4 12 o)

/-- R182, R183: DEC of a register or of the byte at HL; Z of the result, N = 1, H iff the low nibble was 0, C kept. -/
def Obligations.DecrementByte : Prop :=
  ∀ (o : Operand8) (s : State), Encodes (.dec8 o) [byte (0x05 + 8 * o.code)] ∧
    ∃ t v, exec (.dec8 o) s = .next t ∧ (v.toNat : Int) = ((s.operand o).toNat - 1 : Int) % 256 ∧
      OperandBecomes s t o v ∧
      FlagsAre t (decide (v.toNat = 0)) true (decide ((s.operand o).toNat % 16 = 0)) s.flagC ∧ t.sp = s.sp ∧
      Proceeds s t 1 (operandCost 4 12 o)

/-- R184: DAA adds (N = 0) or subtracts (N = 1) its two corrections modulo 256; Z of the result, N kept, H = 0, C kept or
set by the high correction of an addition. -/
def Obligations.DecimalAdjustCorrects : Prop :=
  ∀ s : State,
    let high := if s.flagN then s.flagC else s.flagC || decide (s.a.toNat > 0x99)
    let low := if s.flagN then s.flagH else s.flagH || decide (s.a.toNat % 16 > 9)
    let k : Int := (if high then 0x60 else 0) + (if low then 0x06 else 0)
    Encodes .daa [0x27] ∧ ∃ t, exec .daa s = .next t ∧
      (t.a.toNat : Int) = (s.a.toNat + (if s.flagN then -k else k)) % 256 ∧
      FlagsAre t (decide (t.a.toNat = 0)) s.flagN false high ∧ SameRegs s t [.A] ∧ t.sp = s.sp ∧ SameMem s t [] ∧
      Proceeds s t 1 4

/-- R13, R172 to R175, R184 (derived): on packed BCD operands an ADD or ADC, or a SUB or SBC, followed by DAA gives the
decimal sum or difference of two digits, with C as the decimal carry or borrow. -/
def Obligations.DecimalAdjustKeepsArithmeticDecimal : Prop :=
  ∀ (subtract withCarry : Bool) (src : AluSource) (s t u : State),
    let op := if subtract then (if withCarry then AluOp.sbc else AluOp.sub) else (if withCarry then AluOp.adc else AluOp.add)
    let c : Int := if withCarry then s.flagC.toNat else 0
    let bcd (v : Byte) : Int := 10 * (v.toNat / 16) + v.toNat % 16
    s.a.toNat / 16 ≤ 9 → s.a.toNat % 16 ≤ 9 → (s.aluSource src).toNat / 16 ≤ 9 → (s.aluSource src).toNat % 16 ≤ 9 →
    exec (.alu op src) s = .next t → exec .daa t = .next u →
    u.a.toNat / 16 ≤ 9 ∧ u.a.toNat % 16 ≤ 9 ∧
    bcd u.a + 100 * (if subtract then -(u.flagC.toNat : Int) else u.flagC.toNat) =
      (if subtract then bcd s.a - bcd (s.aluSource src) - c else bcd s.a + bcd (s.aluSource src) + c)

/-- R185 to R187: CPL, SCF and CCF. -/
def Obligations.ComplementAndCarryFlag : Prop :=
  ∀ s : State,
    (Encodes .cpl [0x2F] ∧ ∃ t, exec .cpl s = .next t ∧ t.a.toNat = 255 - s.a.toNat ∧
      FlagsAre t s.flagZ true true s.flagC ∧ SameRegs s t [.A] ∧ t.sp = s.sp ∧ SameMem s t [] ∧ Proceeds s t 1 4) ∧
    (Encodes .scf [0x37] ∧ ∃ t, exec .scf s = .next t ∧ FlagsAre t s.flagZ false false true ∧ SameRegs s t [] ∧
      t.sp = s.sp ∧ SameMem s t [] ∧ Proceeds s t 1 4) ∧
    (Encodes .ccf [0x3F] ∧ ∃ t, exec .ccf s = .next t ∧ FlagsAre t s.flagZ false false (!s.flagC) ∧ SameRegs s t [] ∧
      t.sp = s.sp ∧ SameMem s t [] ∧ Proceeds s t 1 4)

/-! ## 16-bit arithmetic (43_alu16.md) -/

/-- R201: `ADD HL,rr`: the sum modulo 65536; Z kept, N = 0, H out of bit 11, C out of bit 15. -/
def Obligations.AddPairToHL : Prop :=
  ∀ (r : Reg16) (s : State),
    let h := (s.pair .HL).toNat
    let v := (s.reg16 r).toNat
    Encodes (.addHL r) [byte (0x09 + 16 * r.code)] ∧ ∃ t, exec (.addHL r) s = .next t ∧
      (t.pair .HL).toNat = (h + v) % 65536 ∧
      FlagsAre t s.flagZ false (decide (h % 4096 + v % 4096 > 4095)) (decide (h + v > 65535)) ∧
      SameRegs s t [.H, .L] ∧ t.sp = s.sp ∧ SameMem s t [] ∧ Proceeds s t 1 8

/-- R200, R202, R203: `ADD SP,e` and `LD HL,SP+e`: the sum with the signed displacement modulo 65536; Z = N = 0, H and C
those of adding the unsigned byte to SP's low byte. -/
def Obligations.StackPointerPlusDisplacement : Prop :=
  ∀ (e : Byte) (s : State),
    let sum : Int := (s.sp.toNat + e.toInt) % 65536
    let h := decide (s.sp.toNat % 16 + e.toNat % 16 > 15)
    let c := decide (s.sp.toNat % 256 + e.toNat > 255)
    (Encodes (.add_SP_e e) [0xE8, e] ∧ ∃ t, exec (.add_SP_e e) s = .next t ∧ (t.sp.toNat : Int) = sum ∧
      FlagsAre t false false h c ∧ SameRegs s t [] ∧ SameMem s t [] ∧ Proceeds s t 2 16) ∧
    (Encodes (.ld_HL_SPplus_e e) [0xF8, e] ∧ ∃ t, exec (.ld_HL_SPplus_e e) s = .next t ∧
      ((t.pair .HL).toNat : Int) = sum ∧ FlagsAre t false false h c ∧ SameRegs s t [.H, .L] ∧ t.sp = s.sp ∧
      SameMem s t [] ∧ Proceeds s t 2 12)

/-- R204, R205: `INC rr` and `DEC rr`, wrapping, with no flag written. -/
def Obligations.IncrementAndDecrementPair : Prop :=
  ∀ (r : Reg16) (s : State),
    (Encodes (.inc16 r) [byte (0x03 + 16 * r.code)] ∧ ∃ t v, exec (.inc16 r) s = .next t ∧
      v.toNat = ((s.reg16 r).toNat + 1) % 65536 ∧ Reg16Becomes s t r v ∧ t.f = s.f ∧ SameMem s t [] ∧
      Proceeds s t 1 8) ∧
    (Encodes (.dec16 r) [byte (0x0B + 16 * r.code)] ∧ ∃ t v, exec (.dec16 r) s = .next t ∧
      (v.toNat : Int) = ((s.reg16 r).toNat - 1 : Int) % 65536 ∧ Reg16Becomes s t r v ∧ t.f = s.f ∧ SameMem s t [] ∧
      Proceeds s t 1 8)

/-! ## Rotates, shifts and bits (44_rotate_shift.md, 45_bit.md) -/

/-- R220 to R223: RLCA, RRCA, RLA, RRA: the rotated A, C the bit that left it, Z = N = H = 0. -/
def Obligations.AccumulatorRotates : Prop :=
  ∀ (op : AccRotate) (s : State),
    let v := s.a.toNat
    let code := match op with | .rlca => 0x07 | .rrca => 0x0F | .rla => 0x17 | .rra => 0x1F
    let w := match op with
      | .rlca => 2 * v % 256 + v / 128 | .rrca => v / 2 + 128 * (v % 2)
      | .rla => 2 * v % 256 + s.flagC.toNat | .rra => v / 2 + 128 * s.flagC.toNat
    let c := match op with
      | .rlca | .rla => decide (v / 128 = 1) | .rrca | .rra => decide (v % 2 = 1)
    Encodes (.accRotate op) [byte code] ∧ ∃ t, exec (.accRotate op) s = .next t ∧ t.a.toNat = w ∧
      FlagsAre t false false false c ∧ SameRegs s t [.A] ∧ t.sp = s.sp ∧ SameMem s t [] ∧ Proceeds s t 1 4

/-- R224 to R228: RLC, RRC, RL, RR of a register or the byte at HL: Z of the result, C the bit that left it, N = H = 0. -/
def Obligations.RotatesOfAnOperand : Prop :=
  ∀ (op : ShiftOp) (o : Operand8) (s : State), op ∈ [ShiftOp.rlc, .rrc, .rl, .rr] →
    let v := (s.operand o).toNat
    let w := if op = .rlc then 2 * v % 256 + v / 128 else if op = .rrc then v / 2 + 128 * (v % 2)
      else if op = .rl then 2 * v % 256 + s.flagC.toNat else v / 2 + 128 * s.flagC.toNat
    let c := if op = .rlc ∨ op = .rl then decide (v / 128 = 1) else decide (v % 2 = 1)
    Encodes (.shift op o) [0xCB, byte (8 * op.code + o.code)] ∧ ∃ t, exec (.shift op o) s = .next t ∧
      OperandBecomes s t o (byte w) ∧ FlagsAre t (decide (w = 0)) false false c ∧ t.sp = s.sp ∧
      Proceeds s t 2 (operandCost 8 16 o)

/-- R224, R229 to R232: SLA, SRA, SWAP, SRL of a register or the byte at HL: Z of the result, C the bit that left it (0
for SWAP), N = H = 0. -/
def Obligations.ShiftsAndSwapOfAnOperand : Prop :=
  ∀ (op : ShiftOp) (o : Operand8) (s : State), op ∈ [ShiftOp.sla, .sra, .swap, .srl] →
    let v := (s.operand o).toNat
    let w := if op = .sla then 2 * v % 256 else if op = .sra then v / 2 + 128 * (v / 128)
      else if op = .swap then 16 * (v % 16) + v / 16 else v / 2
    let c := if op = .sla then decide (v / 128 = 1) else if op = .swap then false else decide (v % 2 = 1)
    Encodes (.shift op o) [0xCB, byte (8 * op.code + o.code)] ∧ ∃ t, exec (.shift op o) s = .next t ∧
      OperandBecomes s t o (byte w) ∧ FlagsAre t (decide (w = 0)) false false c ∧ t.sp = s.sp ∧
      Proceeds s t 2 (operandCost 8 16 o)

/-- R224, R250: BIT: Z iff the bit is 0, N = 0, H = 1, C kept; the operand is not written. -/
def Obligations.BitTestsOneBit : Prop :=
  ∀ (b : Fin 8) (o : Operand8) (s : State), Encodes (.bit b o) [0xCB, byte (0x40 + 8 * b.val + o.code)] ∧
    ∃ t, exec (.bit b o) s = .next t ∧
      FlagsAre t (decide ((s.operand o).toNat / 2 ^ b.val % 2 = 0)) false true s.flagC ∧ SameRegs s t [] ∧ t.sp = s.sp ∧
      SameMem s t [] ∧ Proceeds s t 2 (operandCost 8 12 o)

/-- R224, R251, R252: RES clears and SET sets bit b of the operand and no other bit; no flag is written. -/
def Obligations.ResetAndSetOneBit : Prop :=
  ∀ (value : Bool) (b : Fin 8) (o : Operand8) (s : State),
    let i := if value then Instr.set b o else Instr.res b o
    Encodes i [0xCB, byte ((if value then 0xC0 else 0x80) + 8 * b.val + o.code)] ∧
    ∃ t w, exec i s = .next t ∧
      (∀ k < 8, w.getLsbD k = if k = b.val then value else (s.operand o).getLsbD k) ∧ OperandBecomes s t o w ∧
      t.f = s.f ∧ t.sp = s.sp ∧ Proceeds s t 2 (operandCost 8 16 o)

/-! ## Control transfer and the stack (46_control.md, 47_stack.md) -/

/-- R260 to R263: `JP nn`, `JP cc,nn` by its condition on Z or C, and `JP HL`. -/
def Obligations.JumpsGoToTheirTarget : Prop :=
  ∀ (cc : Cond) (nn : Word) (s : State),
    (s.cond .NZ = !s.flagZ ∧ s.cond .Z = s.flagZ ∧ s.cond .NC = !s.flagC ∧ s.cond .C = s.flagC) ∧
    (Encodes (.jp_nn nn) [0xC3, loByte nn, hiByte nn] ∧ ∃ t, exec (.jp_nn nn) s = .next t ∧ t.pc = nn ∧
      Reports s t 16 none ∧ SameRegs s t [] ∧ t.f = s.f ∧ t.sp = s.sp ∧ SameMem s t [] ∧ SameControl s t) ∧
    (Encodes .jp_HL [0xE9] ∧ ∃ t, exec .jp_HL s = .next t ∧ t.pc = s.pair .HL ∧ Reports s t 4 none ∧ SameRegs s t [] ∧
      t.f = s.f ∧ t.sp = s.sp ∧ SameMem s t [] ∧ SameControl s t) ∧
    (Encodes (.jpCond cc nn) [byte (0xC2 + 8 * cc.code), loByte nn, hiByte nn] ∧
      ∃ t, exec (.jpCond cc nn) s = .next t ∧ t.pc = (if s.cond cc then nn else s.pc + 3) ∧
        Reports s t (if s.cond cc then 16 else 12) none ∧ SameRegs s t [] ∧ t.f = s.f ∧ t.sp = s.sp ∧ SameMem s t [] ∧
        SameControl s t)

/-- R260, R264, R265: `JR e` and a taken `JR cc,e` go to the JR's address + 2 + e (signed), modulo 65536; a JR not taken goes
to the next instruction. -/
def Obligations.RelativeJumps : Prop :=
  ∀ (cc : Cond) (e : Byte) (s : State),
    let target : Int := (s.pc.toNat + 2 + e.toInt) % 65536
    (Encodes (.jr_e e) [0x18, e] ∧ ∃ t, exec (.jr_e e) s = .next t ∧ (t.pc.toNat : Int) = target ∧ Reports s t 12 none ∧
      SameRegs s t [] ∧ t.f = s.f ∧ t.sp = s.sp ∧ SameMem s t [] ∧ SameControl s t) ∧
    (Encodes (.jrCond cc e) [byte (0x20 + 8 * cc.code), e] ∧ ∃ t, exec (.jrCond cc e) s = .next t ∧
      (t.pc.toNat : Int) = (if s.cond cc then target else (s.pc.toNat + 2) % 65536) ∧
      Reports s t (if s.cond cc then 12 else 8) none ∧ SameRegs s t [] ∧ t.f = s.f ∧ t.sp = s.sp ∧ SameMem s t [] ∧
      SameControl s t)

/-- R260, R266, R267, R271: `CALL nn`, a taken `CALL cc,nn` and `RST t` push the address of the next instruction and go to
the target; a CALL not taken only passes its bytes. -/
def Obligations.CallsPushTheReturnAddress : Prop :=
  ∀ (cc : Cond) (y : Fin 8) (nn : Word) (s : State),
    (Encodes (.call_nn nn) [0xCD, loByte nn, hiByte nn] ∧ ∃ t, exec (.call_nn nn) s = .next t ∧ Pushed s t (s.pc + 3) ∧
      t.pc = nn ∧ Reports s t 24 none ∧ SameRegs s t [] ∧ t.f = s.f ∧ SameControl s t) ∧
    (Encodes (.callCond cc nn) [byte (0xC4 + 8 * cc.code), loByte nn, hiByte nn] ∧
      ∃ t, exec (.callCond cc nn) s = .next t ∧ SameRegs s t [] ∧ t.f = s.f ∧ SameControl s t ∧
        (if s.cond cc then Pushed s t (s.pc + 3) ∧ t.pc = nn ∧ Reports s t 24 none
         else SameMem s t [] ∧ t.sp = s.sp ∧ t.pc = s.pc + 3 ∧ Reports s t 12 none)) ∧
    (Encodes (.rst y) [byte (0xC7 + 8 * y.val)] ∧ ∃ t, exec (.rst y) s = .next t ∧ Pushed s t (s.pc + 1) ∧
      t.pc.toNat = 8 * y.val ∧ Reports s t 16 none ∧ SameRegs s t [] ∧ t.f = s.f ∧ SameControl s t)

/-- R260, R268 to R270: RET, RETI and a taken `RET cc` go to the word at SP and raise SP by 2; RETI also asks for interrupts
to be enabled; a RET not taken only passes its byte. -/
def Obligations.ReturnsPopTheirTarget : Prop :=
  ∀ (cc : Cond) (s : State),
    let target := 256 * (s.readByte (s.sp + 1)).toNat + (s.readByte s.sp).toNat
    (Encodes .ret [0xC9] ∧ ∃ t, exec .ret s = .next t ∧ t.pc.toNat = target ∧ t.sp = s.sp + 2 ∧ Reports s t 16 none ∧
      SameRegs s t [] ∧ t.f = s.f ∧ SameMem s t [] ∧ SameControl s t) ∧
    (Encodes .reti [0xD9] ∧ ∃ t, exec .reti s = .next t ∧ t.pc.toNat = target ∧ t.sp = s.sp + 2 ∧
      Reports s t 16 (some .on) ∧ SameRegs s t [] ∧ t.f = s.f ∧ SameMem s t [] ∧ SameControl s t) ∧
    (Encodes (.retCond cc) [byte (0xC0 + 8 * cc.code)] ∧ ∃ t, exec (.retCond cc) s = .next t ∧ SameRegs s t [] ∧
      t.f = s.f ∧ SameMem s t [] ∧ SameControl s t ∧
      (if s.cond cc then t.pc.toNat = target ∧ t.sp = s.sp + 2 ∧ Reports s t 20 none
       else t.pc = s.pc + 1 ∧ t.sp = s.sp ∧ Reports s t 8 none))

/-- R292 to R294: PUSH stores a pair; POP loads one, AF without F's low nibble. -/
def Obligations.PushAndPopPairs : Prop :=
  ∀ (q : Pair) (s : State),
    (Encodes (.push q) [byte (0xC5 + 16 * q.code)] ∧ ∃ t, exec (.push q) s = .next t ∧ Pushed s t (s.pair q) ∧
      SameRegs s t [] ∧ t.f = s.f ∧ Proceeds s t 1 16) ∧
    (Encodes (.pop q) [byte (0xC1 + 16 * q.code)] ∧ ∃ t v, exec (.pop q) s = .next t ∧
      v.toNat = 256 * (s.readByte (s.sp + 1)).toNat + (s.readByte s.sp).toNat ∧ PairBecomes s t q v ∧
      (q ≠ .AF → t.f = s.f) ∧ t.sp = s.sp + 2 ∧ SameMem s t [] ∧ Proceeds s t 1 12)

/-- R266, R268, R292, R293 (and S3, S4, S6 of 95_test_vectors.md): a RET right after a CALL returns to the instruction after
the CALL, and a POP right after a PUSH moves the pushed pair into the popped one; both leave SP as it was. -/
def Obligations.StackRoundTrips : Prop :=
  (∀ (nn : Word) (s t u : State), exec (.call_nn nn) s = .next t → exec .ret t = .next u →
    u.pc = s.pc + 3 ∧ u.sp = s.sp ∧ SameRegs s u [] ∧ u.f = s.f) ∧
  ∀ (q q' : Pair) (s t u : State), exec (.push q) s = .next t → exec (.pop q') t = .next u →
    u.sp = s.sp ∧ (q' ≠ .AF → u.pair q' = s.pair q) ∧ (q' = .AF → u.pair q' = s.pair q &&& 0xFFF0)

/-! ## Miscellaneous (48_misc.md) -/

/-- R300 to R304: NOP; HALT sets `halted`; STOP passes its second byte whatever it is; DI and EI emit their request. -/
def Obligations.MiscellaneousInstructions : Prop :=
  ∀ (x : Byte) (s : State),
    Encodes .nop [0x00] ∧ Encodes .halt [0x76] ∧ Encodes (.stop x) [0x10, x] ∧ Encodes .di [0xF3] ∧ Encodes .ei [0xFB] ∧
    ∀ i k ime halts, (i, k, ime, halts) ∈ ([(.nop, 1, none, false), (.halt, 1, none, true), (.stop x, 2, none, false),
        (.di, 1, some .off, false), (.ei, 1, some .on, false)] : List (Instr × Nat × Option ImeRequest × Bool)) →
      ∃ t, exec i s = .next t ∧ t.pc = s.pc + BitVec.ofNat 16 k ∧ Reports s t 4 ime ∧ t.halted = (s.halted || halts) ∧
        SameRegs s t [] ∧ t.f = s.f ∧ t.sp = s.sp ∧ SameMem s t [] ∧ t.fault = s.fault ∧ t.params = s.params
end

