-- ==== Sys2Proof/Laws/Memory.lean ====
section
/-! SUPPORT. What the memory operations do, said once: a write is read back, leaves every other address alone, and keeps the
canonical form, in which equal contents are equal lists. -/

namespace Sys2Proof.Machine

variable (m : Memory) (x y : Nat) (v : Byte)

theorem Memory.read_insert_same : (m.insert x v).read x = v := by
  induction m with
  | nil => simp [Memory.insert, Memory.read]
  | cons p m ih =>
    obtain ⟨k, w⟩ := p
    simp only [Memory.insert]
    split
    · simp [Memory.read]
    · split
      · simp [Memory.read]
      · have : k ≠ x := by omega
        simp [Memory.read, this, ih]

theorem Memory.read_insert_other (h : y ≠ x) : (m.insert x v).read y = m.read y := by
  induction m with
  | nil => simp [Memory.insert, Memory.read, h.symm]
  | cons p m ih =>
    obtain ⟨k, w⟩ := p
    simp only [Memory.insert]
    split
    · simp [Memory.read, h.symm]
    · split
      · subst_vars; simp [Memory.read, h.symm]
      · simp [Memory.read, ih]

theorem Memory.read_filter_same : Memory.read (m.filter (fun p => p.1 != x)) x = Config.unlistedByte := by
  induction m with
  | nil => rfl
  | cons p m ih =>
    obtain ⟨k, w⟩ := p
    by_cases hk : k = x
    · simp [hk, ih]
    · simp [hk, Memory.read, ih]

theorem Memory.read_filter_other (h : y ≠ x) : Memory.read (m.filter (fun p => p.1 != x)) y = m.read y := by
  induction m with
  | nil => rfl
  | cons p m ih =>
    obtain ⟨k, w⟩ := p
    by_cases hk : k = x
    · subst hk; simp [Memory.read, ih, h.symm]
    · simp [hk, Memory.read, ih]

/-- A read after a write at the same address gives the byte written. -/
@[simp] theorem Memory.read_write_same : (m.write x v).read x = v := by
  unfold Memory.write
  split
  · rename_i h; rw [Memory.read_filter_same, h]
  · exact Memory.read_insert_same m x v

/-- A write leaves every other address alone. -/
theorem Memory.read_write_other (h : y ≠ x) : (m.write x v).read y = m.read y := by
  unfold Memory.write
  split
  · exact Memory.read_filter_other m x y h
  · exact Memory.read_insert_other m x y v h

/-- What an address reads as after a write, in one equation. -/
theorem Memory.read_write : (m.write x v).read y = if y = x then v else m.read y := by
  split
  · subst_vars; exact Memory.read_write_same ..
  · exact Memory.read_write_other _ _ _ _ ‹_›

theorem Memory.mem_insert {p : Host.Cell} (h : p ∈ m.insert x v) : p = (x, v) ∨ p ∈ m := by
  induction m with
  | nil => simpa [Memory.insert] using h
  | cons q m ih =>
    obtain ⟨k, w⟩ := q
    simp only [Memory.insert] at h
    split at h
    · simpa using h
    · split at h
      · rcases List.mem_cons.1 h with h | h <;> simp [h]
      · rcases List.mem_cons.1 h with h | h
        · simp [h]
        · rcases ih h with h | h <;> simp [h]

theorem Memory.wf_nil : Memory.wf [] := by simp [Memory.wf]

/-- A write below 65536 keeps the canonical form. -/
theorem Memory.write_wf (h : m.wf) (hx : x < 65536) : (m.write x v).wf := by
  unfold Memory.write
  split
  · exact ⟨h.1.sublist List.filter_sublist, fun p hp => h.2 p (List.mem_filter.1 hp).1⟩
  · rename_i hv
    refine ⟨?_, fun p hp => ?_⟩
    · obtain ⟨h1, -⟩ := h
      induction m with
      | nil => simp [Memory.insert]
      | cons q m ih =>
        obtain ⟨k, w⟩ := q
        rw [List.pairwise_cons] at h1
        simp only [Memory.insert]
        split
        · rename_i hlt
          refine List.pairwise_cons.2 ⟨fun p hp => ?_, List.pairwise_cons.2 h1⟩
          rcases List.mem_cons.1 hp with rfl | hp
          · exact hlt
          · exact Nat.lt_trans hlt (h1.1 p hp)
        · split
          · subst_vars; exact List.pairwise_cons.2 h1
          · refine List.pairwise_cons.2 ⟨fun p hp => ?_, ih h1.2⟩
            rcases Memory.mem_insert _ _ _ hp with rfl | hp
            · change k < x; omega
            · exact h1.1 p hp
    · rcases Memory.mem_insert _ _ _ hp with rfl | hp
      · exact ⟨hx, hv⟩
      · exact h.2 p hp

/-- An address below every listed one reads as unlisted. -/
theorem Memory.read_of_lt (h : ∀ p ∈ m, x < p.1) : m.read x = Config.unlistedByte := by
  induction m with
  | nil => rfl
  | cons p m ih =>
    obtain ⟨k, w⟩ := p
    have hk : x < k := h (k, w) (by simp)
    have : k ≠ x := by omega
    simp only [Memory.read, if_neg this]
    exact ih fun p hp => h p (by simp [hp])

/-- In canonical form equal contents are equal lists. -/
theorem Memory.ext_of_wf {m n : Memory} (hm : m.wf) (hn : n.wf) (h : ∀ x < 65536, m.read x = n.read x) : m = n := by
  induction m generalizing n with
  | nil =>
    cases n with
    | nil => rfl
    | cons q n =>
      obtain ⟨hq, hne⟩ := hn.2 q (by simp)
      exact absurd (by simpa [Memory.read] using (h q.1 hq).symm) hne
  | cons p m ih =>
    obtain ⟨k, w⟩ := p
    obtain ⟨hk, hw⟩ := hm.2 (k, w) (by simp)
    have hm' := List.pairwise_cons.1 hm.1
    cases n with
    | nil => exact absurd (by simpa [Memory.read] using h k hk) hw
    | cons q n =>
      obtain ⟨j, u⟩ := q
      obtain ⟨hj, hu⟩ := hn.2 (j, u) (by simp)
      have hn' := List.pairwise_cons.1 hn.1
      have hkj : k = j := by
        rcases Nat.lt_trichotomy k j with hlt | he | hlt
        · have h1 := h k hk
          have h2 : Memory.read ((j, u) :: n) k = Config.unlistedByte := by
            refine Memory.read_of_lt _ _ fun p hp => ?_
            rcases List.mem_cons.1 hp with rfl | hp
            · exact hlt
            · exact Nat.lt_trans hlt (hn'.1 p hp)
          rw [h2] at h1
          exact absurd (by simpa [Memory.read] using h1) hw
        · exact he
        · have h1 := (h j hj).symm
          have h2 : Memory.read ((k, w) :: m) j = Config.unlistedByte := by
            refine Memory.read_of_lt _ _ fun p hp => ?_
            rcases List.mem_cons.1 hp with rfl | hp
            · exact hlt
            · exact Nat.lt_trans hlt (hm'.1 p hp)
          rw [h2] at h1
          exact absurd (by simpa [Memory.read] using h1) hu
      subst hkj
      have hwu : w = u := by simpa [Memory.read] using h k hk
      subst hwu
      congr 1
      refine ih ⟨hm'.2, fun p hp => hm.2 p (by simp [hp])⟩ ⟨hn'.2, fun p hp => hn.2 p (by simp [hp])⟩ fun x hx => ?_
      by_cases hxk : k = x
      · subst hxk
        rw [Memory.read_of_lt m k hm'.1, Memory.read_of_lt n k hn'.1]
      · simpa [Memory.read, hxk] using h x hx

/-! ## The same, through the state's byte access -/

variable (s : State) (a b : Word)

@[simp] theorem State.readByte_writeByte_same : (s.writeByte a v).readByte a = v := by
  simp [State.readByte, State.writeByte]

theorem State.readByte_writeByte_other (h : b ≠ a) : (s.writeByte a v).readByte b = s.readByte b := by
  have : b.toNat ≠ a.toNat := fun e => h (BitVec.eq_of_toNat_eq e)
  simp [State.readByte, State.writeByte, Memory.read_write_other _ _ _ _ this]

theorem State.readByte_writeByte : (s.writeByte a v).readByte b = if b = a then v else s.readByte b := by
  split
  · subst_vars; exact State.readByte_writeByte_same ..
  · exact State.readByte_writeByte_other _ _ _ _ ‹_›

/-- A byte write keeps the canonical form of the state's memory. -/
theorem State.writeByte_wf (h : s.mem.wf) : (s.writeByte a v).mem.wf :=
  Memory.write_wf _ _ _ h a.isLt

end Sys2Proof.Machine
end

