-- ==== Sys2Proof/Laws/State.lean ====
section
/-! SUPPORT. One lemma per field per state update, and the reads of registers, flags and memory after each update, so that
no proof unfolds a record update. -/

namespace Sys2Proof.Machine

variable (s : State)


/-! ### The flags after a flag write (R33 to R35) -/

theorem packFlags_masked (z n h c : Bool) : packFlags z n h c &&& 0xF0 = packFlags z n h c := by
  revert z n h c; decide

theorem packFlags_low (z n h c : Bool) : packFlags z n h c &&& 0x0F = 0 := by
  revert z n h c; decide

theorem packFlags_bits (z n h c : Bool) :
    (packFlags z n h c).getLsbD 7 = z ∧ (packFlags z n h c).getLsbD 6 = n ∧
    (packFlags z n h c).getLsbD 5 = h ∧ (packFlags z n h c).getLsbD 4 = c := by
  revert z n h c; decide


/-! ### `s.setF v` -/

@[simp] theorem State.a_setF (v : Byte) : (s.setF v).a = s.a := rfl
@[simp] theorem State.f_setF (v : Byte) : (s.setF v).f = v &&& 0xF0 := rfl
@[simp] theorem State.b_setF (v : Byte) : (s.setF v).b = s.b := rfl
@[simp] theorem State.c_setF (v : Byte) : (s.setF v).c = s.c := rfl
@[simp] theorem State.d_setF (v : Byte) : (s.setF v).d = s.d := rfl
@[simp] theorem State.e_setF (v : Byte) : (s.setF v).e = s.e := rfl
@[simp] theorem State.h_setF (v : Byte) : (s.setF v).h = s.h := rfl
@[simp] theorem State.l_setF (v : Byte) : (s.setF v).l = s.l := rfl
@[simp] theorem State.sp_setF (v : Byte) : (s.setF v).sp = s.sp := rfl
@[simp] theorem State.pc_setF (v : Byte) : (s.setF v).pc = s.pc := rfl
@[simp] theorem State.halted_setF (v : Byte) : (s.setF v).halted = s.halted := rfl
@[simp] theorem State.cycleCount_setF (v : Byte) : (s.setF v).cycleCount = s.cycleCount := rfl
@[simp] theorem State.fault_setF (v : Byte) : (s.setF v).fault = s.fault := rfl
@[simp] theorem State.mem_setF (v : Byte) : (s.setF v).mem = s.mem := rfl
@[simp] theorem State.params_setF (v : Byte) : (s.setF v).params = s.params := rfl
@[simp] theorem State.result_setF (v : Byte) : (s.setF v).result = s.result := rfl
@[simp] theorem State.reg_setF (v : Byte) (r : Reg8) : (s.setF v).reg r = s.reg r := by cases r <;> rfl
@[simp] theorem State.readByte_setF (v : Byte) (y : Word) : (s.setF v).readByte y = s.readByte y := rfl
@[simp] theorem State.hl_setF (v : Byte) : (s.setF v).hl = s.hl := rfl

/-! ### `s.setSp v` -/

@[simp] theorem State.a_setSp (v : Word) : (s.setSp v).a = s.a := rfl
@[simp] theorem State.f_setSp (v : Word) : (s.setSp v).f = s.f := rfl
@[simp] theorem State.b_setSp (v : Word) : (s.setSp v).b = s.b := rfl
@[simp] theorem State.c_setSp (v : Word) : (s.setSp v).c = s.c := rfl
@[simp] theorem State.d_setSp (v : Word) : (s.setSp v).d = s.d := rfl
@[simp] theorem State.e_setSp (v : Word) : (s.setSp v).e = s.e := rfl
@[simp] theorem State.h_setSp (v : Word) : (s.setSp v).h = s.h := rfl
@[simp] theorem State.l_setSp (v : Word) : (s.setSp v).l = s.l := rfl
@[simp] theorem State.sp_setSp (v : Word) : (s.setSp v).sp = v := rfl
@[simp] theorem State.pc_setSp (v : Word) : (s.setSp v).pc = s.pc := rfl
@[simp] theorem State.halted_setSp (v : Word) : (s.setSp v).halted = s.halted := rfl
@[simp] theorem State.cycleCount_setSp (v : Word) : (s.setSp v).cycleCount = s.cycleCount := rfl
@[simp] theorem State.fault_setSp (v : Word) : (s.setSp v).fault = s.fault := rfl
@[simp] theorem State.mem_setSp (v : Word) : (s.setSp v).mem = s.mem := rfl
@[simp] theorem State.params_setSp (v : Word) : (s.setSp v).params = s.params := rfl
@[simp] theorem State.result_setSp (v : Word) : (s.setSp v).result = s.result := rfl
@[simp] theorem State.reg_setSp (v : Word) (r : Reg8) : (s.setSp v).reg r = s.reg r := by cases r <;> rfl
@[simp] theorem State.readByte_setSp (v : Word) (y : Word) : (s.setSp v).readByte y = s.readByte y := rfl
@[simp] theorem State.hl_setSp (v : Word) : (s.setSp v).hl = s.hl := rfl
@[simp] theorem State.flagZ_setSp (v : Word) : (s.setSp v).flagZ = s.flagZ := rfl
@[simp] theorem State.flagN_setSp (v : Word) : (s.setSp v).flagN = s.flagN := rfl
@[simp] theorem State.flagH_setSp (v : Word) : (s.setSp v).flagH = s.flagH := rfl
@[simp] theorem State.flagC_setSp (v : Word) : (s.setSp v).flagC = s.flagC := rfl

/-! ### `s.setPc v` -/

@[simp] theorem State.a_setPc (v : Word) : (s.setPc v).a = s.a := rfl
@[simp] theorem State.f_setPc (v : Word) : (s.setPc v).f = s.f := rfl
@[simp] theorem State.b_setPc (v : Word) : (s.setPc v).b = s.b := rfl
@[simp] theorem State.c_setPc (v : Word) : (s.setPc v).c = s.c := rfl
@[simp] theorem State.d_setPc (v : Word) : (s.setPc v).d = s.d := rfl
@[simp] theorem State.e_setPc (v : Word) : (s.setPc v).e = s.e := rfl
@[simp] theorem State.h_setPc (v : Word) : (s.setPc v).h = s.h := rfl
@[simp] theorem State.l_setPc (v : Word) : (s.setPc v).l = s.l := rfl
@[simp] theorem State.sp_setPc (v : Word) : (s.setPc v).sp = s.sp := rfl
@[simp] theorem State.pc_setPc (v : Word) : (s.setPc v).pc = v := rfl
@[simp] theorem State.halted_setPc (v : Word) : (s.setPc v).halted = s.halted := rfl
@[simp] theorem State.cycleCount_setPc (v : Word) : (s.setPc v).cycleCount = s.cycleCount := rfl
@[simp] theorem State.fault_setPc (v : Word) : (s.setPc v).fault = s.fault := rfl
@[simp] theorem State.mem_setPc (v : Word) : (s.setPc v).mem = s.mem := rfl
@[simp] theorem State.params_setPc (v : Word) : (s.setPc v).params = s.params := rfl
@[simp] theorem State.result_setPc (v : Word) : (s.setPc v).result = s.result := rfl
@[simp] theorem State.reg_setPc (v : Word) (r : Reg8) : (s.setPc v).reg r = s.reg r := by cases r <;> rfl
@[simp] theorem State.readByte_setPc (v : Word) (y : Word) : (s.setPc v).readByte y = s.readByte y := rfl
@[simp] theorem State.hl_setPc (v : Word) : (s.setPc v).hl = s.hl := rfl
@[simp] theorem State.flagZ_setPc (v : Word) : (s.setPc v).flagZ = s.flagZ := rfl
@[simp] theorem State.flagN_setPc (v : Word) : (s.setPc v).flagN = s.flagN := rfl
@[simp] theorem State.flagH_setPc (v : Word) : (s.setPc v).flagH = s.flagH := rfl
@[simp] theorem State.flagC_setPc (v : Word) : (s.setPc v).flagC = s.flagC := rfl

/-! ### `s.writeByte x v` -/

@[simp] theorem State.a_writeByte (x : Word) (v : Byte) : (s.writeByte x v).a = s.a := rfl
@[simp] theorem State.f_writeByte (x : Word) (v : Byte) : (s.writeByte x v).f = s.f := rfl
@[simp] theorem State.b_writeByte (x : Word) (v : Byte) : (s.writeByte x v).b = s.b := rfl
@[simp] theorem State.c_writeByte (x : Word) (v : Byte) : (s.writeByte x v).c = s.c := rfl
@[simp] theorem State.d_writeByte (x : Word) (v : Byte) : (s.writeByte x v).d = s.d := rfl
@[simp] theorem State.e_writeByte (x : Word) (v : Byte) : (s.writeByte x v).e = s.e := rfl
@[simp] theorem State.h_writeByte (x : Word) (v : Byte) : (s.writeByte x v).h = s.h := rfl
@[simp] theorem State.l_writeByte (x : Word) (v : Byte) : (s.writeByte x v).l = s.l := rfl
@[simp] theorem State.sp_writeByte (x : Word) (v : Byte) : (s.writeByte x v).sp = s.sp := rfl
@[simp] theorem State.pc_writeByte (x : Word) (v : Byte) : (s.writeByte x v).pc = s.pc := rfl
@[simp] theorem State.halted_writeByte (x : Word) (v : Byte) : (s.writeByte x v).halted = s.halted := rfl
@[simp] theorem State.cycleCount_writeByte (x : Word) (v : Byte) : (s.writeByte x v).cycleCount = s.cycleCount := rfl
@[simp] theorem State.fault_writeByte (x : Word) (v : Byte) : (s.writeByte x v).fault = s.fault := rfl
@[simp] theorem State.mem_writeByte (x : Word) (v : Byte) : (s.writeByte x v).mem = s.mem.write x.toNat v := rfl
@[simp] theorem State.params_writeByte (x : Word) (v : Byte) : (s.writeByte x v).params = s.params := rfl
@[simp] theorem State.result_writeByte (x : Word) (v : Byte) : (s.writeByte x v).result = s.result := rfl
@[simp] theorem State.reg_writeByte (x : Word) (v : Byte) (r : Reg8) : (s.writeByte x v).reg r = s.reg r := by cases r <;> rfl
@[simp] theorem State.hl_writeByte (x : Word) (v : Byte) : (s.writeByte x v).hl = s.hl := rfl
@[simp] theorem State.flagZ_writeByte (x : Word) (v : Byte) : (s.writeByte x v).flagZ = s.flagZ := rfl
@[simp] theorem State.flagN_writeByte (x : Word) (v : Byte) : (s.writeByte x v).flagN = s.flagN := rfl
@[simp] theorem State.flagH_writeByte (x : Word) (v : Byte) : (s.writeByte x v).flagH = s.flagH := rfl
@[simp] theorem State.flagC_writeByte (x : Word) (v : Byte) : (s.writeByte x v).flagC = s.flagC := rfl

/-! ### `s.setFlags z n h c` -/

@[simp] theorem State.a_setFlags (z n h c : Bool) : (s.setFlags z n h c).a = s.a := rfl
@[simp] theorem State.f_setFlags (z n h c : Bool) : (s.setFlags z n h c).f = packFlags z n h c := packFlags_masked z n h c
@[simp] theorem State.b_setFlags (z n h c : Bool) : (s.setFlags z n h c).b = s.b := rfl
@[simp] theorem State.c_setFlags (z n h c : Bool) : (s.setFlags z n h c).c = s.c := rfl
@[simp] theorem State.d_setFlags (z n h c : Bool) : (s.setFlags z n h c).d = s.d := rfl
@[simp] theorem State.e_setFlags (z n h c : Bool) : (s.setFlags z n h c).e = s.e := rfl
@[simp] theorem State.h_setFlags (z n h c : Bool) : (s.setFlags z n h c).h = s.h := rfl
@[simp] theorem State.l_setFlags (z n h c : Bool) : (s.setFlags z n h c).l = s.l := rfl
@[simp] theorem State.sp_setFlags (z n h c : Bool) : (s.setFlags z n h c).sp = s.sp := rfl
@[simp] theorem State.pc_setFlags (z n h c : Bool) : (s.setFlags z n h c).pc = s.pc := rfl
@[simp] theorem State.halted_setFlags (z n h c : Bool) : (s.setFlags z n h c).halted = s.halted := rfl
@[simp] theorem State.cycleCount_setFlags (z n h c : Bool) : (s.setFlags z n h c).cycleCount = s.cycleCount := rfl
@[simp] theorem State.fault_setFlags (z n h c : Bool) : (s.setFlags z n h c).fault = s.fault := rfl
@[simp] theorem State.mem_setFlags (z n h c : Bool) : (s.setFlags z n h c).mem = s.mem := rfl
@[simp] theorem State.params_setFlags (z n h c : Bool) : (s.setFlags z n h c).params = s.params := rfl
@[simp] theorem State.result_setFlags (z n h c : Bool) : (s.setFlags z n h c).result = s.result := rfl
@[simp] theorem State.reg_setFlags (z n h c : Bool) (r : Reg8) : (s.setFlags z n h c).reg r = s.reg r := by cases r <;> rfl
@[simp] theorem State.readByte_setFlags (z n h c : Bool) (y : Word) : (s.setFlags z n h c).readByte y = s.readByte y := rfl
@[simp] theorem State.hl_setFlags (z n h c : Bool) : (s.setFlags z n h c).hl = s.hl := rfl

/-! ### `s.fetched k` -/

@[simp] theorem State.a_fetched (k : Nat) : (s.fetched k).a = s.a := rfl
@[simp] theorem State.f_fetched (k : Nat) : (s.fetched k).f = s.f := rfl
@[simp] theorem State.b_fetched (k : Nat) : (s.fetched k).b = s.b := rfl
@[simp] theorem State.c_fetched (k : Nat) : (s.fetched k).c = s.c := rfl
@[simp] theorem State.d_fetched (k : Nat) : (s.fetched k).d = s.d := rfl
@[simp] theorem State.e_fetched (k : Nat) : (s.fetched k).e = s.e := rfl
@[simp] theorem State.h_fetched (k : Nat) : (s.fetched k).h = s.h := rfl
@[simp] theorem State.l_fetched (k : Nat) : (s.fetched k).l = s.l := rfl
@[simp] theorem State.sp_fetched (k : Nat) : (s.fetched k).sp = s.sp := rfl
@[simp] theorem State.pc_fetched (k : Nat) : (s.fetched k).pc = s.pc + BitVec.ofNat 16 k := rfl
@[simp] theorem State.halted_fetched (k : Nat) : (s.fetched k).halted = s.halted := rfl
@[simp] theorem State.cycleCount_fetched (k : Nat) : (s.fetched k).cycleCount = s.cycleCount := rfl
@[simp] theorem State.fault_fetched (k : Nat) : (s.fetched k).fault = s.fault := rfl
@[simp] theorem State.mem_fetched (k : Nat) : (s.fetched k).mem = s.mem := rfl
@[simp] theorem State.params_fetched (k : Nat) : (s.fetched k).params = s.params := rfl
@[simp] theorem State.result_fetched (k : Nat) : (s.fetched k).result = StepResult.none := rfl
@[simp] theorem State.reg_fetched (k : Nat) (r : Reg8) : (s.fetched k).reg r = s.reg r := by cases r <;> rfl
@[simp] theorem State.readByte_fetched (k : Nat) (y : Word) : (s.fetched k).readByte y = s.readByte y := rfl
@[simp] theorem State.hl_fetched (k : Nat) : (s.fetched k).hl = s.hl := rfl
@[simp] theorem State.flagZ_fetched (k : Nat) : (s.fetched k).flagZ = s.flagZ := rfl
@[simp] theorem State.flagN_fetched (k : Nat) : (s.fetched k).flagN = s.flagN := rfl
@[simp] theorem State.flagH_fetched (k : Nat) : (s.fetched k).flagH = s.flagH := rfl
@[simp] theorem State.flagC_fetched (k : Nat) : (s.fetched k).flagC = s.flagC := rfl

/-! ### `s.report k` -/

@[simp] theorem State.a_report (k : Nat) : (s.report k).a = s.a := rfl
@[simp] theorem State.f_report (k : Nat) : (s.report k).f = s.f := rfl
@[simp] theorem State.b_report (k : Nat) : (s.report k).b = s.b := rfl
@[simp] theorem State.c_report (k : Nat) : (s.report k).c = s.c := rfl
@[simp] theorem State.d_report (k : Nat) : (s.report k).d = s.d := rfl
@[simp] theorem State.e_report (k : Nat) : (s.report k).e = s.e := rfl
@[simp] theorem State.h_report (k : Nat) : (s.report k).h = s.h := rfl
@[simp] theorem State.l_report (k : Nat) : (s.report k).l = s.l := rfl
@[simp] theorem State.sp_report (k : Nat) : (s.report k).sp = s.sp := rfl
@[simp] theorem State.pc_report (k : Nat) : (s.report k).pc = s.pc := rfl
@[simp] theorem State.halted_report (k : Nat) : (s.report k).halted = s.halted := rfl
@[simp] theorem State.cycleCount_report (k : Nat) : (s.report k).cycleCount = (s.cycleCount + k) % 2 ^ s.params.cycleCounterWidth := rfl
@[simp] theorem State.fault_report (k : Nat) : (s.report k).fault = s.fault := rfl
@[simp] theorem State.mem_report (k : Nat) : (s.report k).mem = s.mem := rfl
@[simp] theorem State.params_report (k : Nat) : (s.report k).params = s.params := rfl
@[simp] theorem State.result_report (k : Nat) : (s.report k).result = ⟨k, s.result.ime⟩ := rfl
@[simp] theorem State.reg_report (k : Nat) (r : Reg8) : (s.report k).reg r = s.reg r := by cases r <;> rfl
@[simp] theorem State.readByte_report (k : Nat) (y : Word) : (s.report k).readByte y = s.readByte y := rfl
@[simp] theorem State.hl_report (k : Nat) : (s.report k).hl = s.hl := rfl
@[simp] theorem State.flagZ_report (k : Nat) : (s.report k).flagZ = s.flagZ := rfl
@[simp] theorem State.flagN_report (k : Nat) : (s.report k).flagN = s.flagN := rfl
@[simp] theorem State.flagH_report (k : Nat) : (s.report k).flagH = s.flagH := rfl
@[simp] theorem State.flagC_report (k : Nat) : (s.report k).flagC = s.flagC := rfl

/-! ### `s.emitIme q` -/

@[simp] theorem State.a_emitIme (q : ImeRequest) : (s.emitIme q).a = s.a := rfl
@[simp] theorem State.f_emitIme (q : ImeRequest) : (s.emitIme q).f = s.f := rfl
@[simp] theorem State.b_emitIme (q : ImeRequest) : (s.emitIme q).b = s.b := rfl
@[simp] theorem State.c_emitIme (q : ImeRequest) : (s.emitIme q).c = s.c := rfl
@[simp] theorem State.d_emitIme (q : ImeRequest) : (s.emitIme q).d = s.d := rfl
@[simp] theorem State.e_emitIme (q : ImeRequest) : (s.emitIme q).e = s.e := rfl
@[simp] theorem State.h_emitIme (q : ImeRequest) : (s.emitIme q).h = s.h := rfl
@[simp] theorem State.l_emitIme (q : ImeRequest) : (s.emitIme q).l = s.l := rfl
@[simp] theorem State.sp_emitIme (q : ImeRequest) : (s.emitIme q).sp = s.sp := rfl
@[simp] theorem State.pc_emitIme (q : ImeRequest) : (s.emitIme q).pc = s.pc := rfl
@[simp] theorem State.halted_emitIme (q : ImeRequest) : (s.emitIme q).halted = s.halted := rfl
@[simp] theorem State.cycleCount_emitIme (q : ImeRequest) : (s.emitIme q).cycleCount = s.cycleCount := rfl
@[simp] theorem State.fault_emitIme (q : ImeRequest) : (s.emitIme q).fault = s.fault := rfl
@[simp] theorem State.mem_emitIme (q : ImeRequest) : (s.emitIme q).mem = s.mem := rfl
@[simp] theorem State.params_emitIme (q : ImeRequest) : (s.emitIme q).params = s.params := rfl
@[simp] theorem State.result_emitIme (q : ImeRequest) : (s.emitIme q).result = ⟨s.result.cost, some q⟩ := rfl
@[simp] theorem State.reg_emitIme (q : ImeRequest) (r : Reg8) : (s.emitIme q).reg r = s.reg r := by cases r <;> rfl
@[simp] theorem State.readByte_emitIme (q : ImeRequest) (y : Word) : (s.emitIme q).readByte y = s.readByte y := rfl
@[simp] theorem State.hl_emitIme (q : ImeRequest) : (s.emitIme q).hl = s.hl := rfl
@[simp] theorem State.flagZ_emitIme (q : ImeRequest) : (s.emitIme q).flagZ = s.flagZ := rfl
@[simp] theorem State.flagN_emitIme (q : ImeRequest) : (s.emitIme q).flagN = s.flagN := rfl
@[simp] theorem State.flagH_emitIme (q : ImeRequest) : (s.emitIme q).flagH = s.flagH := rfl
@[simp] theorem State.flagC_emitIme (q : ImeRequest) : (s.emitIme q).flagC = s.flagC := rfl

/-! ### `s.dropTop` -/

@[simp] theorem State.a_dropTop : (s.dropTop).a = s.a := rfl
@[simp] theorem State.f_dropTop : (s.dropTop).f = s.f := rfl
@[simp] theorem State.b_dropTop : (s.dropTop).b = s.b := rfl
@[simp] theorem State.c_dropTop : (s.dropTop).c = s.c := rfl
@[simp] theorem State.d_dropTop : (s.dropTop).d = s.d := rfl
@[simp] theorem State.e_dropTop : (s.dropTop).e = s.e := rfl
@[simp] theorem State.h_dropTop : (s.dropTop).h = s.h := rfl
@[simp] theorem State.l_dropTop : (s.dropTop).l = s.l := rfl
@[simp] theorem State.sp_dropTop : (s.dropTop).sp = s.sp + 2 := rfl
@[simp] theorem State.pc_dropTop : (s.dropTop).pc = s.pc := rfl
@[simp] theorem State.halted_dropTop : (s.dropTop).halted = s.halted := rfl
@[simp] theorem State.cycleCount_dropTop : (s.dropTop).cycleCount = s.cycleCount := rfl
@[simp] theorem State.fault_dropTop : (s.dropTop).fault = s.fault := rfl
@[simp] theorem State.mem_dropTop : (s.dropTop).mem = s.mem := rfl
@[simp] theorem State.params_dropTop : (s.dropTop).params = s.params := rfl
@[simp] theorem State.result_dropTop : (s.dropTop).result = s.result := rfl
@[simp] theorem State.reg_dropTop (r : Reg8) : (s.dropTop).reg r = s.reg r := by cases r <;> rfl
@[simp] theorem State.readByte_dropTop (y : Word) : (s.dropTop).readByte y = s.readByte y := rfl
@[simp] theorem State.hl_dropTop : (s.dropTop).hl = s.hl := rfl
@[simp] theorem State.flagZ_dropTop : (s.dropTop).flagZ = s.flagZ := rfl
@[simp] theorem State.flagN_dropTop : (s.dropTop).flagN = s.flagN := rfl
@[simp] theorem State.flagH_dropTop : (s.dropTop).flagH = s.flagH := rfl
@[simp] theorem State.flagC_dropTop : (s.dropTop).flagC = s.flagC := rfl

/-! ### `s.push16 v` -/

@[simp] theorem State.a_push16 (v : Word) : (s.push16 v).a = s.a := rfl
@[simp] theorem State.f_push16 (v : Word) : (s.push16 v).f = s.f := rfl
@[simp] theorem State.b_push16 (v : Word) : (s.push16 v).b = s.b := rfl
@[simp] theorem State.c_push16 (v : Word) : (s.push16 v).c = s.c := rfl
@[simp] theorem State.d_push16 (v : Word) : (s.push16 v).d = s.d := rfl
@[simp] theorem State.e_push16 (v : Word) : (s.push16 v).e = s.e := rfl
@[simp] theorem State.h_push16 (v : Word) : (s.push16 v).h = s.h := rfl
@[simp] theorem State.l_push16 (v : Word) : (s.push16 v).l = s.l := rfl
@[simp] theorem State.sp_push16 (v : Word) : (s.push16 v).sp = s.sp - 2 := rfl
@[simp] theorem State.pc_push16 (v : Word) : (s.push16 v).pc = s.pc := rfl
@[simp] theorem State.halted_push16 (v : Word) : (s.push16 v).halted = s.halted := rfl
@[simp] theorem State.cycleCount_push16 (v : Word) : (s.push16 v).cycleCount = s.cycleCount := rfl
@[simp] theorem State.fault_push16 (v : Word) : (s.push16 v).fault = s.fault := rfl
@[simp] theorem State.mem_push16 (v : Word) : (s.push16 v).mem = ((s.mem.write (s.sp - 1).toNat (hiByte v)).write (s.sp - 2).toNat (loByte v)) := rfl
@[simp] theorem State.params_push16 (v : Word) : (s.push16 v).params = s.params := rfl
@[simp] theorem State.result_push16 (v : Word) : (s.push16 v).result = s.result := rfl
@[simp] theorem State.reg_push16 (v : Word) (r : Reg8) : (s.push16 v).reg r = s.reg r := by cases r <;> rfl
@[simp] theorem State.hl_push16 (v : Word) : (s.push16 v).hl = s.hl := rfl
@[simp] theorem State.flagZ_push16 (v : Word) : (s.push16 v).flagZ = s.flagZ := rfl
@[simp] theorem State.flagN_push16 (v : Word) : (s.push16 v).flagN = s.flagN := rfl
@[simp] theorem State.flagH_push16 (v : Word) : (s.push16 v).flagH = s.flagH := rfl
@[simp] theorem State.flagC_push16 (v : Word) : (s.push16 v).flagC = s.flagC := rfl

/-! ### `s.writeWord x v` -/

@[simp] theorem State.a_writeWord (x v : Word) : (s.writeWord x v).a = s.a := rfl
@[simp] theorem State.f_writeWord (x v : Word) : (s.writeWord x v).f = s.f := rfl
@[simp] theorem State.b_writeWord (x v : Word) : (s.writeWord x v).b = s.b := rfl
@[simp] theorem State.c_writeWord (x v : Word) : (s.writeWord x v).c = s.c := rfl
@[simp] theorem State.d_writeWord (x v : Word) : (s.writeWord x v).d = s.d := rfl
@[simp] theorem State.e_writeWord (x v : Word) : (s.writeWord x v).e = s.e := rfl
@[simp] theorem State.h_writeWord (x v : Word) : (s.writeWord x v).h = s.h := rfl
@[simp] theorem State.l_writeWord (x v : Word) : (s.writeWord x v).l = s.l := rfl
@[simp] theorem State.sp_writeWord (x v : Word) : (s.writeWord x v).sp = s.sp := rfl
@[simp] theorem State.pc_writeWord (x v : Word) : (s.writeWord x v).pc = s.pc := rfl
@[simp] theorem State.halted_writeWord (x v : Word) : (s.writeWord x v).halted = s.halted := rfl
@[simp] theorem State.cycleCount_writeWord (x v : Word) : (s.writeWord x v).cycleCount = s.cycleCount := rfl
@[simp] theorem State.fault_writeWord (x v : Word) : (s.writeWord x v).fault = s.fault := rfl
@[simp] theorem State.mem_writeWord (x v : Word) : (s.writeWord x v).mem = ((s.mem.write x.toNat (loByte v)).write (x + 1).toNat (hiByte v)) := rfl
@[simp] theorem State.params_writeWord (x v : Word) : (s.writeWord x v).params = s.params := rfl
@[simp] theorem State.result_writeWord (x v : Word) : (s.writeWord x v).result = s.result := rfl
@[simp] theorem State.reg_writeWord (x v : Word) (r : Reg8) : (s.writeWord x v).reg r = s.reg r := by cases r <;> rfl
@[simp] theorem State.hl_writeWord (x v : Word) : (s.writeWord x v).hl = s.hl := rfl
@[simp] theorem State.flagZ_writeWord (x v : Word) : (s.writeWord x v).flagZ = s.flagZ := rfl
@[simp] theorem State.flagN_writeWord (x v : Word) : (s.writeWord x v).flagN = s.flagN := rfl
@[simp] theorem State.flagH_writeWord (x v : Word) : (s.writeWord x v).flagH = s.flagH := rfl
@[simp] theorem State.flagC_writeWord (x v : Word) : (s.writeWord x v).flagC = s.flagC := rfl

/-! ### `s.enterInterrupt v` and `s.raiseIllegal o` -/

@[simp] theorem State.a_enterInterrupt (v : Word) : (s.enterInterrupt v).a = s.a := by simp [State.enterInterrupt, StepResult.none]
@[simp] theorem State.f_enterInterrupt (v : Word) : (s.enterInterrupt v).f = s.f := by simp [State.enterInterrupt, StepResult.none]
@[simp] theorem State.b_enterInterrupt (v : Word) : (s.enterInterrupt v).b = s.b := by simp [State.enterInterrupt, StepResult.none]
@[simp] theorem State.c_enterInterrupt (v : Word) : (s.enterInterrupt v).c = s.c := by simp [State.enterInterrupt, StepResult.none]
@[simp] theorem State.d_enterInterrupt (v : Word) : (s.enterInterrupt v).d = s.d := by simp [State.enterInterrupt, StepResult.none]
@[simp] theorem State.e_enterInterrupt (v : Word) : (s.enterInterrupt v).e = s.e := by simp [State.enterInterrupt, StepResult.none]
@[simp] theorem State.h_enterInterrupt (v : Word) : (s.enterInterrupt v).h = s.h := by simp [State.enterInterrupt, StepResult.none]
@[simp] theorem State.l_enterInterrupt (v : Word) : (s.enterInterrupt v).l = s.l := by simp [State.enterInterrupt, StepResult.none]
@[simp] theorem State.sp_enterInterrupt (v : Word) : (s.enterInterrupt v).sp = s.sp - 2 := by simp [State.enterInterrupt, StepResult.none]
@[simp] theorem State.pc_enterInterrupt (v : Word) : (s.enterInterrupt v).pc = v := by simp [State.enterInterrupt, StepResult.none]
@[simp] theorem State.halted_enterInterrupt (v : Word) : (s.enterInterrupt v).halted = false := by simp [State.enterInterrupt, StepResult.none]
@[simp] theorem State.cycleCount_enterInterrupt (v : Word) : (s.enterInterrupt v).cycleCount = (s.cycleCount + 20) % 2 ^ s.params.cycleCounterWidth := by simp [State.enterInterrupt, StepResult.none]
@[simp] theorem State.fault_enterInterrupt (v : Word) : (s.enterInterrupt v).fault = s.fault := by simp [State.enterInterrupt, StepResult.none]
@[simp] theorem State.mem_enterInterrupt (v : Word) : (s.enterInterrupt v).mem = ((s.mem.write (s.sp - 1).toNat (hiByte s.pc)).write (s.sp - 2).toNat (loByte s.pc)) := by simp [State.enterInterrupt, StepResult.none]
@[simp] theorem State.params_enterInterrupt (v : Word) : (s.enterInterrupt v).params = s.params := by simp [State.enterInterrupt, StepResult.none]
@[simp] theorem State.result_enterInterrupt (v : Word) : (s.enterInterrupt v).result = ⟨20, none⟩ := by simp [State.enterInterrupt, StepResult.none]
@[simp] theorem State.reg_enterInterrupt (v : Word) (r : Reg8) : (s.enterInterrupt v).reg r = s.reg r := by
  cases r <;> simp [State.reg]
@[simp] theorem State.a_raiseIllegal (o : Byte) : (s.raiseIllegal o).a = s.a := rfl
@[simp] theorem State.f_raiseIllegal (o : Byte) : (s.raiseIllegal o).f = s.f := rfl
@[simp] theorem State.b_raiseIllegal (o : Byte) : (s.raiseIllegal o).b = s.b := rfl
@[simp] theorem State.c_raiseIllegal (o : Byte) : (s.raiseIllegal o).c = s.c := rfl
@[simp] theorem State.d_raiseIllegal (o : Byte) : (s.raiseIllegal o).d = s.d := rfl
@[simp] theorem State.e_raiseIllegal (o : Byte) : (s.raiseIllegal o).e = s.e := rfl
@[simp] theorem State.h_raiseIllegal (o : Byte) : (s.raiseIllegal o).h = s.h := rfl
@[simp] theorem State.l_raiseIllegal (o : Byte) : (s.raiseIllegal o).l = s.l := rfl
@[simp] theorem State.sp_raiseIllegal (o : Byte) : (s.raiseIllegal o).sp = s.sp := rfl
@[simp] theorem State.pc_raiseIllegal (o : Byte) : (s.raiseIllegal o).pc = s.pc + 1 := rfl
@[simp] theorem State.halted_raiseIllegal (o : Byte) : (s.raiseIllegal o).halted = s.halted := rfl
@[simp] theorem State.cycleCount_raiseIllegal (o : Byte) : (s.raiseIllegal o).cycleCount = s.cycleCount := rfl
@[simp] theorem State.fault_raiseIllegal (o : Byte) : (s.raiseIllegal o).fault = s.fault.or (some (.illegalOpcode o)) := rfl
@[simp] theorem State.mem_raiseIllegal (o : Byte) : (s.raiseIllegal o).mem = s.mem := rfl
@[simp] theorem State.params_raiseIllegal (o : Byte) : (s.raiseIllegal o).params = s.params := rfl
@[simp] theorem State.result_raiseIllegal (o : Byte) : (s.raiseIllegal o).result = ⟨-1, none⟩ := rfl

/-! ### `s.setReg r v` -/

@[simp] theorem State.f_setReg (r : Reg8) (v : Byte) : (s.setReg r v).f = s.f := by cases r <;> rfl
@[simp] theorem State.sp_setReg (r : Reg8) (v : Byte) : (s.setReg r v).sp = s.sp := by cases r <;> rfl
@[simp] theorem State.pc_setReg (r : Reg8) (v : Byte) : (s.setReg r v).pc = s.pc := by cases r <;> rfl
@[simp] theorem State.halted_setReg (r : Reg8) (v : Byte) : (s.setReg r v).halted = s.halted := by cases r <;> rfl
@[simp] theorem State.cycleCount_setReg (r : Reg8) (v : Byte) : (s.setReg r v).cycleCount = s.cycleCount := by cases r <;> rfl
@[simp] theorem State.fault_setReg (r : Reg8) (v : Byte) : (s.setReg r v).fault = s.fault := by cases r <;> rfl
@[simp] theorem State.mem_setReg (r : Reg8) (v : Byte) : (s.setReg r v).mem = s.mem := by cases r <;> rfl
@[simp] theorem State.params_setReg (r : Reg8) (v : Byte) : (s.setReg r v).params = s.params := by cases r <;> rfl
@[simp] theorem State.result_setReg (r : Reg8) (v : Byte) : (s.setReg r v).result = s.result := by cases r <;> rfl
@[simp] theorem State.flagZ_setReg (r : Reg8) (v : Byte) : (s.setReg r v).flagZ = s.flagZ := by cases r <;> rfl
@[simp] theorem State.flagN_setReg (r : Reg8) (v : Byte) : (s.setReg r v).flagN = s.flagN := by cases r <;> rfl
@[simp] theorem State.flagH_setReg (r : Reg8) (v : Byte) : (s.setReg r v).flagH = s.flagH := by cases r <;> rfl
@[simp] theorem State.flagC_setReg (r : Reg8) (v : Byte) : (s.setReg r v).flagC = s.flagC := by cases r <;> rfl
@[simp] theorem State.readByte_setReg (r : Reg8) (v : Byte) (y : Word) : (s.setReg r v).readByte y = s.readByte y := by cases r <;> rfl
@[simp] theorem State.reg_setReg_same (r : Reg8) (v : Byte) : (s.setReg r v).reg r = v := by cases r <;> rfl

theorem State.reg_setReg_other (r q : Reg8) (v : Byte) (h : q ≠ r) : (s.setReg r v).reg q = s.reg q := by
  cases r <;> cases q <;> first | rfl | exact absurd rfl h

/-! ### `s.setPair q v` -/

@[simp] theorem State.sp_setPair (q : Pair) (v : Word) : (s.setPair q v).sp = s.sp := by cases q <;> rfl
@[simp] theorem State.pc_setPair (q : Pair) (v : Word) : (s.setPair q v).pc = s.pc := by cases q <;> rfl
@[simp] theorem State.halted_setPair (q : Pair) (v : Word) : (s.setPair q v).halted = s.halted := by cases q <;> rfl
@[simp] theorem State.cycleCount_setPair (q : Pair) (v : Word) : (s.setPair q v).cycleCount = s.cycleCount := by cases q <;> rfl
@[simp] theorem State.fault_setPair (q : Pair) (v : Word) : (s.setPair q v).fault = s.fault := by cases q <;> rfl
@[simp] theorem State.mem_setPair (q : Pair) (v : Word) : (s.setPair q v).mem = s.mem := by cases q <;> rfl
@[simp] theorem State.params_setPair (q : Pair) (v : Word) : (s.setPair q v).params = s.params := by cases q <;> rfl
@[simp] theorem State.result_setPair (q : Pair) (v : Word) : (s.setPair q v).result = s.result := by cases q <;> rfl
@[simp] theorem State.readByte_setPair (q : Pair) (v : Word) (y : Word) : (s.setPair q v).readByte y = s.readByte y := by cases q <;> rfl
@[simp] theorem State.reg_B_setPair_BC (v : Word) : (s.setPair .BC v).reg .B = hiByte v := rfl
@[simp] theorem State.reg_C_setPair_BC (v : Word) : (s.setPair .BC v).reg .C = loByte v := rfl
@[simp] theorem State.reg_D_setPair_BC (v : Word) : (s.setPair .BC v).reg .D = s.reg .D := rfl
@[simp] theorem State.reg_E_setPair_BC (v : Word) : (s.setPair .BC v).reg .E = s.reg .E := rfl
@[simp] theorem State.reg_H_setPair_BC (v : Word) : (s.setPair .BC v).reg .H = s.reg .H := rfl
@[simp] theorem State.reg_L_setPair_BC (v : Word) : (s.setPair .BC v).reg .L = s.reg .L := rfl
@[simp] theorem State.reg_A_setPair_BC (v : Word) : (s.setPair .BC v).reg .A = s.reg .A := rfl
@[simp] theorem State.f_setPair_BC (v : Word) : (s.setPair .BC v).f = s.f := rfl
@[simp] theorem State.flagZ_setPair_BC (v : Word) : (s.setPair .BC v).flagZ = s.flagZ := rfl
@[simp] theorem State.flagN_setPair_BC (v : Word) : (s.setPair .BC v).flagN = s.flagN := rfl
@[simp] theorem State.flagH_setPair_BC (v : Word) : (s.setPair .BC v).flagH = s.flagH := rfl
@[simp] theorem State.flagC_setPair_BC (v : Word) : (s.setPair .BC v).flagC = s.flagC := rfl
@[simp] theorem State.reg_B_setPair_DE (v : Word) : (s.setPair .DE v).reg .B = s.reg .B := rfl
@[simp] theorem State.reg_C_setPair_DE (v : Word) : (s.setPair .DE v).reg .C = s.reg .C := rfl
@[simp] theorem State.reg_D_setPair_DE (v : Word) : (s.setPair .DE v).reg .D = hiByte v := rfl
@[simp] theorem State.reg_E_setPair_DE (v : Word) : (s.setPair .DE v).reg .E = loByte v := rfl
@[simp] theorem State.reg_H_setPair_DE (v : Word) : (s.setPair .DE v).reg .H = s.reg .H := rfl
@[simp] theorem State.reg_L_setPair_DE (v : Word) : (s.setPair .DE v).reg .L = s.reg .L := rfl
@[simp] theorem State.reg_A_setPair_DE (v : Word) : (s.setPair .DE v).reg .A = s.reg .A := rfl
@[simp] theorem State.f_setPair_DE (v : Word) : (s.setPair .DE v).f = s.f := rfl
@[simp] theorem State.flagZ_setPair_DE (v : Word) : (s.setPair .DE v).flagZ = s.flagZ := rfl
@[simp] theorem State.flagN_setPair_DE (v : Word) : (s.setPair .DE v).flagN = s.flagN := rfl
@[simp] theorem State.flagH_setPair_DE (v : Word) : (s.setPair .DE v).flagH = s.flagH := rfl
@[simp] theorem State.flagC_setPair_DE (v : Word) : (s.setPair .DE v).flagC = s.flagC := rfl
@[simp] theorem State.reg_B_setPair_HL (v : Word) : (s.setPair .HL v).reg .B = s.reg .B := rfl
@[simp] theorem State.reg_C_setPair_HL (v : Word) : (s.setPair .HL v).reg .C = s.reg .C := rfl
@[simp] theorem State.reg_D_setPair_HL (v : Word) : (s.setPair .HL v).reg .D = s.reg .D := rfl
@[simp] theorem State.reg_E_setPair_HL (v : Word) : (s.setPair .HL v).reg .E = s.reg .E := rfl
@[simp] theorem State.reg_H_setPair_HL (v : Word) : (s.setPair .HL v).reg .H = hiByte v := rfl
@[simp] theorem State.reg_L_setPair_HL (v : Word) : (s.setPair .HL v).reg .L = loByte v := rfl
@[simp] theorem State.reg_A_setPair_HL (v : Word) : (s.setPair .HL v).reg .A = s.reg .A := rfl
@[simp] theorem State.f_setPair_HL (v : Word) : (s.setPair .HL v).f = s.f := rfl
@[simp] theorem State.flagZ_setPair_HL (v : Word) : (s.setPair .HL v).flagZ = s.flagZ := rfl
@[simp] theorem State.flagN_setPair_HL (v : Word) : (s.setPair .HL v).flagN = s.flagN := rfl
@[simp] theorem State.flagH_setPair_HL (v : Word) : (s.setPair .HL v).flagH = s.flagH := rfl
@[simp] theorem State.flagC_setPair_HL (v : Word) : (s.setPair .HL v).flagC = s.flagC := rfl
@[simp] theorem State.reg_B_setPair_AF (v : Word) : (s.setPair .AF v).reg .B = s.reg .B := rfl
@[simp] theorem State.reg_C_setPair_AF (v : Word) : (s.setPair .AF v).reg .C = s.reg .C := rfl
@[simp] theorem State.reg_D_setPair_AF (v : Word) : (s.setPair .AF v).reg .D = s.reg .D := rfl
@[simp] theorem State.reg_E_setPair_AF (v : Word) : (s.setPair .AF v).reg .E = s.reg .E := rfl
@[simp] theorem State.reg_H_setPair_AF (v : Word) : (s.setPair .AF v).reg .H = s.reg .H := rfl
@[simp] theorem State.reg_L_setPair_AF (v : Word) : (s.setPair .AF v).reg .L = s.reg .L := rfl
@[simp] theorem State.reg_A_setPair_AF (v : Word) : (s.setPair .AF v).reg .A = hiByte v := rfl
@[simp] theorem State.f_setPair_AF (v : Word) : (s.setPair .AF v).f = loByte v &&& 0xF0 := rfl
@[simp] theorem State.flagZ_setFlags (z n h c : Bool) : (s.setFlags z n h c).flagZ = z := by
  rw [State.flagZ, State.f_setFlags]; exact (packFlags_bits z n h c).1
@[simp] theorem State.flagN_setFlags (z n h c : Bool) : (s.setFlags z n h c).flagN = n := by
  rw [State.flagN, State.f_setFlags]; exact (packFlags_bits z n h c).2.1
@[simp] theorem State.flagH_setFlags (z n h c : Bool) : (s.setFlags z n h c).flagH = h := by
  rw [State.flagH, State.f_setFlags]; exact (packFlags_bits z n h c).2.2.1
@[simp] theorem State.flagC_setFlags (z n h c : Bool) : (s.setFlags z n h c).flagC = c := by
  rw [State.flagC, State.f_setFlags]; exact (packFlags_bits z n h c).2.2.2

/-- Two flag bytes with a zero low nibble and the same flags are equal. -/
theorem packFlags_of_low_zero (v : Byte) (h : v &&& 0x0F = 0) :
    packFlags (v.getLsbD 7) (v.getLsbD 6) (v.getLsbD 5) (v.getLsbD 4) = v := by
  revert v; decide

end Sys2Proof.Machine
end

