-- ==== Sys2Proof/Laws/Ops.lean ====
section
/-! SUPPORT. What each shared operation does, said once, for proofs to cite instead of unfolding it: what every effect leaves
alone, that every effect keeps the invariant's parts, and what `complete` and `completeIf` answer. -/

namespace Sys2Proof.Machine

/-! ## Effects leave the frame of the step alone -/

/-- What an effect other than a control transfer, HALT, DI, EI and RETI leaves as it was. -/
def KeepsFrame (s u : State) : Prop :=
  u.pc = s.pc ∧ u.halted = s.halted ∧ u.fault = s.fault ∧ u.params = s.params ∧ u.result = s.result ∧
  u.cycleCount = s.cycleCount

variable (s t : State)

theorem setOperand_keepsFrame (o : Operand8) (v : Byte) : KeepsFrame s (s.setOperand o v) := by
  cases o <;> simp [KeepsFrame, State.setOperand]

theorem setReg16_keepsFrame (r : Reg16) (v : Word) : KeepsFrame s (s.setReg16 r v) := by
  cases r <;> simp [KeepsFrame, State.setReg16]

theorem KeepsFrame.setFlags {s u : State} (h : KeepsFrame s u) (z n hc c : Bool) : KeepsFrame s (u.setFlags z n hc c) := by
  simpa [KeepsFrame] using h

theorem copyOperand_keepsFrame (d o : Operand8) : KeepsFrame s (copyOperand d o s) := setOperand_keepsFrame ..
theorem loadImmediate_keepsFrame (d : Operand8) (n : Byte) : KeepsFrame s (loadImmediate d n s) := setOperand_keepsFrame ..
theorem loadA_keepsFrame (x : Word) : KeepsFrame s (loadA x s) := setOperand_keepsFrame s (.reg .A) _
theorem storeA_keepsFrame (x : Word) : KeepsFrame s (storeA x s) := by simp [KeepsFrame, storeA]
theorem loadAPair_keepsFrame (q : Pair) : KeepsFrame s (loadAPair q s) := loadA_keepsFrame ..
theorem storeAPair_keepsFrame (q : Pair) : KeepsFrame s (storeAPair q s) := storeA_keepsFrame ..
theorem loadAHighC_keepsFrame : KeepsFrame s (loadAHighC s) := loadA_keepsFrame ..
theorem storeAHighC_keepsFrame : KeepsFrame s (storeAHighC s) := storeA_keepsFrame ..
theorem loadAMoveHL_keepsFrame (d : Word) : KeepsFrame s (loadAMoveHL d s) := by simp [KeepsFrame, loadAMoveHL]
theorem storeAMoveHL_keepsFrame (d : Word) : KeepsFrame s (storeAMoveHL d s) := by simp [KeepsFrame, storeAMoveHL]
theorem loadPair_keepsFrame (r : Reg16) (nn : Word) : KeepsFrame s (loadPair r nn s) := setReg16_keepsFrame ..
theorem storeSp_keepsFrame (nn : Word) : KeepsFrame s (storeSp nn s) := by simp [KeepsFrame, storeSp]
theorem copyHLToSp_keepsFrame : KeepsFrame s (copyHLToSp s) := by simp [KeepsFrame, copyHLToSp]
theorem accumulate_keepsFrame (op : AluOp) (src : AluSource) : KeepsFrame s (accumulate op src s) := by
  cases op <;> simp [KeepsFrame, accumulate]
theorem incOperand_keepsFrame (o : Operand8) : KeepsFrame s (incOperand o s) := (setOperand_keepsFrame ..).setFlags ..
theorem decOperand_keepsFrame (o : Operand8) : KeepsFrame s (decOperand o s) := (setOperand_keepsFrame ..).setFlags ..
theorem decimalAdjust_keepsFrame : KeepsFrame s (decimalAdjust s) := by simp [KeepsFrame, decimalAdjust]
theorem complementA_keepsFrame : KeepsFrame s (complementA s) := by simp [KeepsFrame, complementA]
theorem setCarryFlag_keepsFrame : KeepsFrame s (setCarryFlag s) := by simp [KeepsFrame, setCarryFlag]
theorem complementCarryFlag_keepsFrame : KeepsFrame s (complementCarryFlag s) := by
  simp [KeepsFrame, complementCarryFlag]
theorem addToHL_keepsFrame (r : Reg16) : KeepsFrame s (addToHL r s) := by simp [KeepsFrame, addToHL]
theorem addToSp_keepsFrame (e : Byte) : KeepsFrame s (addToSp e s) := by simp [KeepsFrame, addToSp]
theorem loadHLSpPlus_keepsFrame (e : Byte) : KeepsFrame s (loadHLSpPlus e s) := by simp [KeepsFrame, loadHLSpPlus]
theorem incPair_keepsFrame (r : Reg16) : KeepsFrame s (incPair r s) := setReg16_keepsFrame ..
theorem decPair_keepsFrame (r : Reg16) : KeepsFrame s (decPair r s) := setReg16_keepsFrame ..
theorem rotateA_keepsFrame (op : AccRotate) : KeepsFrame s (rotateA op s) := by simp [KeepsFrame, rotateA]
theorem shiftOperand_keepsFrame (op : ShiftOp) (o : Operand8) : KeepsFrame s (shiftOperand op o s) :=
  (setOperand_keepsFrame ..).setFlags ..
theorem testBit_keepsFrame (b : Fin 8) (o : Operand8) : KeepsFrame s (testBit b o s) := by simp [KeepsFrame, testBit]
theorem resetBit_keepsFrame (b : Fin 8) (o : Operand8) : KeepsFrame s (resetBit b o s) := setOperand_keepsFrame ..
theorem setBit_keepsFrame (b : Fin 8) (o : Operand8) : KeepsFrame s (setBit b o s) := setOperand_keepsFrame ..
theorem pushPair_keepsFrame (q : Pair) : KeepsFrame s (pushPair q s) := by simp [KeepsFrame, pushPair]
theorem popPair_keepsFrame (q : Pair) : KeepsFrame s (popPair q s) := by simp [KeepsFrame, popPair]

/-! ## Effects keep the data invariant -/

/-- The parts of the invariant an effect could break: the canonical form of memory and the zero low nibble of F. -/
abbrev DataInv (s : State) : Prop := s.mem.wf ∧ s.f &&& 0x0F = 0

variable {s t}

theorem masked_low (v : Byte) : v &&& 0xF0 &&& 0x0F = 0 := by revert v; decide

theorem DataInv.setFlags (h : DataInv s) (z n hc c : Bool) : DataInv (s.setFlags z n hc c) :=
  ⟨h.1, by rw [State.f_setFlags]; exact packFlags_low z n hc c⟩

theorem DataInv.setReg (h : DataInv s) (r : Reg8) (v : Byte) : DataInv (s.setReg r v) := by
  simpa [DataInv] using h

theorem DataInv.writeByte (h : DataInv s) (x : Word) (v : Byte) : DataInv (s.writeByte x v) :=
  ⟨State.writeByte_wf v s x h.1, h.2⟩

theorem DataInv.setSp (h : DataInv s) (v : Word) : DataInv (s.setSp v) := h

theorem DataInv.setPc (h : DataInv s) (v : Word) : DataInv (s.setPc v) := h

theorem DataInv.setPair (h : DataInv s) (q : Pair) (v : Word) : DataInv (s.setPair q v) := by
  cases q
  · exact h
  · exact h
  · exact h
  · exact ⟨h.1, masked_low _⟩

theorem DataInv.setReg16 (h : DataInv s) (r : Reg16) (v : Word) : DataInv (s.setReg16 r v) := by
  cases r
  · exact h.setPair ..
  · exact h.setPair ..
  · exact h.setPair ..
  · exact h

theorem DataInv.setOperand (h : DataInv s) (o : Operand8) (v : Byte) : DataInv (s.setOperand o v) := by
  cases o
  · exact h.setReg ..
  · exact h.writeByte ..

theorem DataInv.push16 (h : DataInv s) (v : Word) : DataInv (s.push16 v) := ((h.writeByte _ _).writeByte _ _).setSp _

theorem accumulate_dataInv (h : DataInv s) (op : AluOp) (src : AluSource) : DataInv (accumulate op src s) := by
  cases op <;> exact h.setFlags ..

theorem copyOperand_dataInv (h : DataInv s) (d o : Operand8) : DataInv (copyOperand d o s) := h.setOperand ..
theorem loadImmediate_dataInv (h : DataInv s) (d : Operand8) (n : Byte) : DataInv (loadImmediate d n s) := h.setOperand ..
theorem loadA_dataInv (h : DataInv s) (x : Word) : DataInv (loadA x s) := h.setReg ..
theorem storeA_dataInv (h : DataInv s) (x : Word) : DataInv (storeA x s) := h.writeByte ..
theorem loadAPair_dataInv (h : DataInv s) (q : Pair) : DataInv (loadAPair q s) := h.setReg ..
theorem storeAPair_dataInv (h : DataInv s) (q : Pair) : DataInv (storeAPair q s) := h.writeByte ..
theorem loadAHighC_dataInv (h : DataInv s) : DataInv (loadAHighC s) := h.setReg ..
theorem storeAHighC_dataInv (h : DataInv s) : DataInv (storeAHighC s) := h.writeByte ..
theorem loadAMoveHL_dataInv (h : DataInv s) (d : Word) : DataInv (loadAMoveHL d s) := (h.setReg ..).setPair ..
theorem storeAMoveHL_dataInv (h : DataInv s) (d : Word) : DataInv (storeAMoveHL d s) := (h.writeByte ..).setPair ..
theorem loadPair_dataInv (h : DataInv s) (r : Reg16) (nn : Word) : DataInv (loadPair r nn s) := h.setReg16 ..
theorem storeSp_dataInv (h : DataInv s) (nn : Word) : DataInv (storeSp nn s) := (h.writeByte ..).writeByte ..
theorem copyHLToSp_dataInv (h : DataInv s) : DataInv (copyHLToSp s) := h.setSp _
theorem incOperand_dataInv (h : DataInv s) (o : Operand8) : DataInv (incOperand o s) := (h.setOperand ..).setFlags ..
theorem decOperand_dataInv (h : DataInv s) (o : Operand8) : DataInv (decOperand o s) := (h.setOperand ..).setFlags ..
theorem decimalAdjust_dataInv (h : DataInv s) : DataInv (decimalAdjust s) := (h.setReg ..).setFlags ..
theorem complementA_dataInv (h : DataInv s) : DataInv (complementA s) := (h.setReg ..).setFlags ..
theorem setCarryFlag_dataInv (h : DataInv s) : DataInv (setCarryFlag s) := h.setFlags ..
theorem complementCarryFlag_dataInv (h : DataInv s) : DataInv (complementCarryFlag s) := h.setFlags ..
theorem addToHL_dataInv (h : DataInv s) (r : Reg16) : DataInv (addToHL r s) := (h.setPair ..).setFlags ..
theorem addToSp_dataInv (h : DataInv s) (e : Byte) : DataInv (addToSp e s) := (h.setSp _).setFlags ..
theorem loadHLSpPlus_dataInv (h : DataInv s) (e : Byte) : DataInv (loadHLSpPlus e s) := (h.setPair ..).setFlags ..
theorem incPair_dataInv (h : DataInv s) (r : Reg16) : DataInv (incPair r s) := h.setReg16 ..
theorem decPair_dataInv (h : DataInv s) (r : Reg16) : DataInv (decPair r s) := h.setReg16 ..
theorem rotateA_dataInv (h : DataInv s) (op : AccRotate) : DataInv (rotateA op s) := (h.setReg ..).setFlags ..
theorem shiftOperand_dataInv (h : DataInv s) (op : ShiftOp) (o : Operand8) : DataInv (shiftOperand op o s) := (h.setOperand ..).setFlags ..
theorem testBit_dataInv (h : DataInv s) (b : Fin 8) (o : Operand8) : DataInv (testBit b o s) := h.setFlags ..
theorem resetBit_dataInv (h : DataInv s) (b : Fin 8) (o : Operand8) : DataInv (resetBit b o s) := h.setOperand ..
theorem setBit_dataInv (h : DataInv s) (b : Fin 8) (o : Operand8) : DataInv (setBit b o s) := h.setOperand ..
theorem jump_dataInv (h : DataInv s) (x : Word) : DataInv (jump x s) := h.setPc _
theorem jumpHL_dataInv (h : DataInv s) : DataInv (jumpHL s) := h.setPc _
theorem jumpRelative_dataInv (h : DataInv s) (e : Byte) : DataInv (jumpRelative e s) := h.setPc _
theorem call_dataInv (h : DataInv s) (x : Word) : DataInv (call x s) := (h.push16 _).setPc _
theorem ret_dataInv (h : DataInv s) : DataInv (ret s) := (h.setSp _).setPc _
theorem retEnable_dataInv (h : DataInv s) : DataInv (retEnable s) := ret_dataInv h
theorem pushPair_dataInv (h : DataInv s) (q : Pair) : DataInv (pushPair q s) := h.push16 _
theorem popPair_dataInv (h : DataInv s) (q : Pair) : DataInv (popPair q s) := (h.setSp _).setPair ..
theorem halt_dataInv (h : DataInv s) : DataInv (halt s) := h
theorem requestIme_dataInv (h : DataInv s) (q : ImeRequest) : DataInv (requestIme q s) := h

/-! ## Operands, pairs and the stack -/

/-- The halves of a word and the word of two halves (R7, R31). -/
theorem wordOf_toNat (hi lo : Byte) : (wordOf hi lo).toNat = 256 * hi.toNat + lo.toNat := by
  have := lo.isLt
  simp only [wordOf, BitVec.toNat_append, Nat.shiftLeft_eq]
  rw [← Nat.shiftLeft_eq, ← Nat.shiftLeft_add_eq_or_of_lt (by omega), Nat.shiftLeft_eq]
  omega

theorem hiByte_toNat (v : Word) : (hiByte v).toNat = v.toNat / 256 := by
  have := v.isLt
  simp only [hiByte, BitVec.extractLsb'_toNat, Nat.shiftRight_eq_div_pow]
  omega

theorem loByte_toNat (v : Word) : (loByte v).toNat = v.toNat % 256 := by
  simp [loByte, BitVec.extractLsb'_toNat]

@[simp] theorem wordOf_halves (v : Word) : wordOf (hiByte v) (loByte v) = v := by
  apply BitVec.eq_of_toNat_eq
  rw [wordOf_toNat, hiByte_toNat, loByte_toNat]
  omega

/-- `Push16` (R290): the two slots differ, hold the two halves, and no other byte changed. -/
theorem push16_pushed (s : State) (v : Word) : Pushed s (s.push16 v) v := by
  have hne : s.sp - 1 ≠ s.sp - 2 := by bv_omega
  refine ⟨?_, ?_, fun x hx => ?_, rfl⟩
  · simp only [State.push16, State.readByte_setSp]
    rw [State.readByte_writeByte_other _ _ _ _ hne, State.readByte_writeByte_same]
  · simp only [State.push16, State.readByte_setSp, State.readByte_writeByte_same]
  · simp only [List.mem_cons, List.not_mem_nil, or_false, not_or] at hx
    simp only [State.push16, State.readByte_setSp]
    rw [State.readByte_writeByte_other _ _ _ _ hx.2, State.readByte_writeByte_other _ _ _ _ hx.1]

/-- `Pushed` speaks of SP and memory alone, before and after. -/
theorem Pushed.congr {s s' t t' : State} {v : Word} (h : Pushed s' t' v) (hs : s'.sp = s.sp) (hm : s'.mem = s.mem)
    (ts : t'.sp = t.sp) (tm : t'.mem = t.mem) : Pushed s t v := by
  simp only [Pushed, SameMem, State.readByte] at h ⊢
  rwa [hs, hm, ts, tm] at h

/-- The word on top after `Push16` is the word pushed (R290, R291). -/
@[simp] theorem stackTop_push16 (s : State) (v : Word) : (s.push16 v).stackTop = v := by
  obtain ⟨h1, h2, -, h3⟩ := push16_pushed s v
  have e : (s.push16 v).sp + 1 = s.sp - 1 := by rw [h3]; bv_omega
  rw [State.stackTop, e, h1, h3, h2, wordOf_halves]

@[simp] theorem stackTop_fetched (s : State) (k : Nat) : (s.fetched k).stackTop = s.stackTop := rfl
@[simp] theorem stackTop_report (s : State) (k : Nat) : (s.report k).stackTop = s.stackTop := rfl
@[simp] theorem pair_fetched (s : State) (k : Nat) (q : Pair) : (s.fetched k).pair q = s.pair q := by cases q <;> rfl

/-- Writing an operand (R92, R224): the register or the byte at HL holds the value, everything else is as before. -/
theorem setOperand_becomes (s : State) (o : Operand8) (v : Byte) : OperandBecomes s (s.setOperand o v) o v := by
  cases o with
  | reg r =>
    exact ⟨State.reg_setReg_same .., fun q hq => State.reg_setReg_other _ _ _ _ (by simpa using hq),
      fun x _ => State.readByte_setReg ..⟩
  | indHL =>
    exact ⟨State.readByte_writeByte_same .., fun q _ => State.reg_writeByte ..,
      fun x hx => State.readByte_writeByte_other _ _ _ _ (by simpa using hx)⟩

/-- Writing a pair (R32). -/
theorem setPair_becomes (s : State) (q : Pair) (v : Word) : PairBecomes s (s.setPair q v) q v := by
  cases q <;> refine ⟨rfl, rfl, fun r hr => ?_⟩ <;> cases r <;> first | rfl | simp at hr

/-- The flags after a flag write are those written, over a zero low nibble (R33, R35). -/
theorem setFlags_flagsAre (s : State) (z n h c : Bool) : FlagsAre (s.setFlags z n h c) z n h c :=
  ⟨State.flagZ_setFlags .., State.flagN_setFlags .., State.flagH_setFlags .., State.flagC_setFlags ..,
    by rw [State.f_setFlags]; exact packFlags_low ..⟩

/-! ## What an instruction answers -/

theorem complete_eq (k cost : Nat) (effect : State → State) (s : State) :
    complete k cost effect s = .next ((effect (s.fetched k)).report cost) := rfl

theorem completeIf_taken (k c c' : Nat) (effect : State → State) (s : State) :
    completeIf true k c c' effect s = complete k c effect s := rfl

theorem completeIf_notTaken (k c c' : Nat) (effect : State → State) (s : State) :
    completeIf false k c c' effect s = complete k c' id s := rfl

/-- An instruction whose effect leaves the frame of the step alone proceeds to the next one. -/
theorem proceeds_of_keepsFrame {k cost : Nat} {u : State} (h : KeepsFrame (s.fetched k) u) :
    Proceeds s (u.report cost) k cost := by
  obtain ⟨h1, h2, h3, h4, h5, h6⟩ := h
  simp only [State.pc_fetched, State.halted_fetched, State.fault_fetched, State.params_fetched, State.result_fetched,
    State.cycleCount_fetched] at h1 h2 h3 h4 h5 h6
  simp [Proceeds, Reports, SameControl, h1, h2, h3, h4, h5, h6, StepResult.none]

/-- An instruction whose effect keeps the data invariant keeps the whole invariant. -/
theorem inv_of_dataInv {k cost : Nat} {effect : State → State} (h : DataInv (effect (s.fetched k))) :
    ((effect (s.fetched k)).report cost).Inv :=
  ⟨h.1, h.2, Nat.mod_lt _ (Nat.two_pow_pos _)⟩

/-- A step answers one of three next states: the stuck step, the idle step, or what `exec` answers for the instruction at
PC (R327). -/
theorem step_cases (s : State) :
    (s.stuck = true ∧ step s = .next s.stuckStep) ∨ (s.stuck = false ∧ s.halted = true ∧ step s = .next s.idleStep) ∨
    (s.stuck = false ∧ s.halted = false ∧ step s = exec s.nextInstr s) := by
  unfold step stepWith
  cases hs : s.stuck <;> cases hh : s.halted <;> simp

end Sys2Proof.Machine
end

