-- ==== Sys2Proof/Laws/Exec.lean ====
section
/-! SUPPORT. What `exec` can answer, said once over all instructions: an effect of known frame on the fetched state, with a
cost of 4 to 24 reported, or the IllegalOpcode outcome. Whole-machine facts follow from it without unfolding `exec`. -/

namespace Sys2Proof.Machine

/-- What an instruction does beside registers, flags, memory and PC. -/
inductive Side where
  | plain | halts | enables | disables
deriving DecidableEq

/-- The side of an instruction: HALT, EI and RETI, DI, or nothing (R270, R301, R303, R304). -/
def sideOf : Instr → Side
  | .halt => .halts
  | .ei => .enables
  | .reti => .enables
  | .di => .disables
  | _ => .plain

/-- The request a side emits. -/
def Side.ime : Side → Option ImeRequest
  | .enables => some .on
  | .disables => some .off
  | .plain => none
  | .halts => none

/-- What every effect of an instruction with a given side leaves or does. -/
structure EffectFacts (k : Side) (s u : State) : Prop where
  dataInv : DataInv s → DataInv u
  fault : u.fault = s.fault
  params : u.params = s.params
  cycleCount : u.cycleCount = s.cycleCount
  halted : u.halted = (s.halted || decide (k = .halts))
  cost : u.result.cost = s.result.cost
  ime : u.result.ime = k.ime.or s.result.ime

theorem EffectFacts.ofKeepsFrame {s u : State} (h : KeepsFrame s u) (d : DataInv s → DataInv u) :
    EffectFacts .plain s u := by
  obtain ⟨-, h2, h3, h4, h5, h6⟩ := h
  exact ⟨d, h3, h4, h6, by simp [h2], by rw [h5], by simp [h5, Side.ime]⟩

theorem copyOperand_facts (d o : Operand8) (s : State) : EffectFacts .plain s (copyOperand d o s) :=
  .ofKeepsFrame (copyOperand_keepsFrame ..) fun h => copyOperand_dataInv h ..
theorem loadImmediate_facts (d : Operand8) (n : Byte) (s : State) : EffectFacts .plain s (loadImmediate d n s) :=
  .ofKeepsFrame (loadImmediate_keepsFrame ..) fun h => loadImmediate_dataInv h ..
theorem loadA_facts (x : Word) (s : State) : EffectFacts .plain s (loadA x s) :=
  .ofKeepsFrame (loadA_keepsFrame ..) fun h => loadA_dataInv h ..
theorem storeA_facts (x : Word) (s : State) : EffectFacts .plain s (storeA x s) :=
  .ofKeepsFrame (storeA_keepsFrame ..) fun h => storeA_dataInv h ..
theorem loadAPair_facts (q : Pair) (s : State) : EffectFacts .plain s (loadAPair q s) :=
  .ofKeepsFrame (loadAPair_keepsFrame ..) fun h => loadAPair_dataInv h ..
theorem storeAPair_facts (q : Pair) (s : State) : EffectFacts .plain s (storeAPair q s) :=
  .ofKeepsFrame (storeAPair_keepsFrame ..) fun h => storeAPair_dataInv h ..
theorem loadAHighC_facts (s : State) : EffectFacts .plain s (loadAHighC s) :=
  .ofKeepsFrame (loadAHighC_keepsFrame ..) fun h => loadAHighC_dataInv h
theorem storeAHighC_facts (s : State) : EffectFacts .plain s (storeAHighC s) :=
  .ofKeepsFrame (storeAHighC_keepsFrame ..) fun h => storeAHighC_dataInv h
theorem loadAMoveHL_facts (d : Word) (s : State) : EffectFacts .plain s (loadAMoveHL d s) :=
  .ofKeepsFrame (loadAMoveHL_keepsFrame ..) fun h => loadAMoveHL_dataInv h ..
theorem storeAMoveHL_facts (d : Word) (s : State) : EffectFacts .plain s (storeAMoveHL d s) :=
  .ofKeepsFrame (storeAMoveHL_keepsFrame ..) fun h => storeAMoveHL_dataInv h ..
theorem loadPair_facts (r : Reg16) (nn : Word) (s : State) : EffectFacts .plain s (loadPair r nn s) :=
  .ofKeepsFrame (loadPair_keepsFrame ..) fun h => loadPair_dataInv h ..
theorem storeSp_facts (nn : Word) (s : State) : EffectFacts .plain s (storeSp nn s) :=
  .ofKeepsFrame (storeSp_keepsFrame ..) fun h => storeSp_dataInv h ..
theorem copyHLToSp_facts (s : State) : EffectFacts .plain s (copyHLToSp s) :=
  .ofKeepsFrame (copyHLToSp_keepsFrame ..) fun h => copyHLToSp_dataInv h
theorem accumulate_facts (op : AluOp) (src : AluSource) (s : State) : EffectFacts .plain s (accumulate op src s) :=
  .ofKeepsFrame (accumulate_keepsFrame ..) fun h => accumulate_dataInv h ..
theorem incOperand_facts (o : Operand8) (s : State) : EffectFacts .plain s (incOperand o s) :=
  .ofKeepsFrame (incOperand_keepsFrame ..) fun h => incOperand_dataInv h ..
theorem decOperand_facts (o : Operand8) (s : State) : EffectFacts .plain s (decOperand o s) :=
  .ofKeepsFrame (decOperand_keepsFrame ..) fun h => decOperand_dataInv h ..
theorem decimalAdjust_facts (s : State) : EffectFacts .plain s (decimalAdjust s) :=
  .ofKeepsFrame (decimalAdjust_keepsFrame ..) fun h => decimalAdjust_dataInv h
theorem complementA_facts (s : State) : EffectFacts .plain s (complementA s) :=
  .ofKeepsFrame (complementA_keepsFrame ..) fun h => complementA_dataInv h
theorem setCarryFlag_facts (s : State) : EffectFacts .plain s (setCarryFlag s) :=
  .ofKeepsFrame (setCarryFlag_keepsFrame ..) fun h => setCarryFlag_dataInv h
theorem complementCarryFlag_facts (s : State) : EffectFacts .plain s (complementCarryFlag s) :=
  .ofKeepsFrame (complementCarryFlag_keepsFrame ..) fun h => complementCarryFlag_dataInv h
theorem addToHL_facts (r : Reg16) (s : State) : EffectFacts .plain s (addToHL r s) :=
  .ofKeepsFrame (addToHL_keepsFrame ..) fun h => addToHL_dataInv h ..
theorem addToSp_facts (e : Byte) (s : State) : EffectFacts .plain s (addToSp e s) :=
  .ofKeepsFrame (addToSp_keepsFrame ..) fun h => addToSp_dataInv h ..
theorem loadHLSpPlus_facts (e : Byte) (s : State) : EffectFacts .plain s (loadHLSpPlus e s) :=
  .ofKeepsFrame (loadHLSpPlus_keepsFrame ..) fun h => loadHLSpPlus_dataInv h ..
theorem incPair_facts (r : Reg16) (s : State) : EffectFacts .plain s (incPair r s) :=
  .ofKeepsFrame (incPair_keepsFrame ..) fun h => incPair_dataInv h ..
theorem decPair_facts (r : Reg16) (s : State) : EffectFacts .plain s (decPair r s) :=
  .ofKeepsFrame (decPair_keepsFrame ..) fun h => decPair_dataInv h ..
theorem rotateA_facts (op : AccRotate) (s : State) : EffectFacts .plain s (rotateA op s) :=
  .ofKeepsFrame (rotateA_keepsFrame ..) fun h => rotateA_dataInv h ..
theorem shiftOperand_facts (op : ShiftOp) (o : Operand8) (s : State) : EffectFacts .plain s (shiftOperand op o s) :=
  .ofKeepsFrame (shiftOperand_keepsFrame ..) fun h => shiftOperand_dataInv h ..
theorem testBit_facts (b : Fin 8) (o : Operand8) (s : State) : EffectFacts .plain s (testBit b o s) :=
  .ofKeepsFrame (testBit_keepsFrame ..) fun h => testBit_dataInv h ..
theorem resetBit_facts (b : Fin 8) (o : Operand8) (s : State) : EffectFacts .plain s (resetBit b o s) :=
  .ofKeepsFrame (resetBit_keepsFrame ..) fun h => resetBit_dataInv h ..
theorem setBit_facts (b : Fin 8) (o : Operand8) (s : State) : EffectFacts .plain s (setBit b o s) :=
  .ofKeepsFrame (setBit_keepsFrame ..) fun h => setBit_dataInv h ..
theorem pushPair_facts (q : Pair) (s : State) : EffectFacts .plain s (pushPair q s) :=
  .ofKeepsFrame (pushPair_keepsFrame ..) fun h => pushPair_dataInv h ..
theorem popPair_facts (q : Pair) (s : State) : EffectFacts .plain s (popPair q s) :=
  .ofKeepsFrame (popPair_keepsFrame ..) fun h => popPair_dataInv h ..

theorem jump_facts (x : Word) (s : State) : EffectFacts .plain s (jump x s) :=
  ⟨fun h => jump_dataInv h x, rfl, rfl, rfl, by simp [jump], rfl, rfl⟩
theorem jumpHL_facts (s : State) : EffectFacts .plain s (jumpHL s) :=
  ⟨jumpHL_dataInv, rfl, rfl, rfl, by simp [jumpHL], rfl, rfl⟩
theorem jumpRelative_facts (e : Byte) (s : State) : EffectFacts .plain s (jumpRelative e s) :=
  ⟨fun h => jumpRelative_dataInv h e, rfl, rfl, rfl, by simp [jumpRelative], rfl, rfl⟩
theorem call_facts (x : Word) (s : State) : EffectFacts .plain s (call x s) :=
  ⟨fun h => call_dataInv h x, rfl, rfl, rfl, by simp [call], rfl, rfl⟩
theorem ret_facts (s : State) : EffectFacts .plain s (ret s) :=
  ⟨ret_dataInv, rfl, rfl, rfl, by simp [ret], rfl, rfl⟩
theorem retEnable_facts (s : State) : EffectFacts .enables s (retEnable s) :=
  ⟨retEnable_dataInv, rfl, rfl, rfl, by simp [retEnable, ret], rfl, rfl⟩
theorem halt_facts (s : State) : EffectFacts .halts s (halt s) :=
  ⟨halt_dataInv, rfl, rfl, rfl, by simp [halt], rfl, rfl⟩
theorem enable_facts (s : State) : EffectFacts .enables s (requestIme .on s) :=
  ⟨fun h => requestIme_dataInv h _, rfl, rfl, rfl, by simp [requestIme], rfl, rfl⟩
theorem disable_facts (s : State) : EffectFacts .disables s (requestIme .off s) :=
  ⟨fun h => requestIme_dataInv h _, rfl, rfl, rfl, by simp [requestIme], rfl, rfl⟩
theorem id_facts (s : State) : EffectFacts .plain s (id s) :=
  ⟨fun h => h, rfl, rfl, rfl, by simp, rfl, rfl⟩

/-- A run of an instruction: an effect with its side's facts on the fetched state, and a cost of 4 to 24 (R114, R115). -/
def Answers (k : Side) (s : State) (r : Result) : Prop :=
  ∃ len cost u, r = .next (u.report cost) ∧ 4 ≤ cost ∧ cost ≤ 24 ∧ EffectFacts k (s.fetched len) u

theorem complete_answers {k : Side} {len cost : Nat} {effect : State → State} {s : State}
    (h : ∀ u, EffectFacts k u (effect u)) (h4 : 4 ≤ cost) (h24 : cost ≤ 24) :
    Answers k s (complete len cost effect s) :=
  ⟨len, cost, _, rfl, h4, h24, h _⟩

theorem completeIf_answers {b : Bool} {len c c' : Nat} {effect : State → State} {s : State}
    (h : ∀ u, EffectFacts .plain u (effect u)) (h4 : 4 ≤ c) (h24 : c ≤ 24) (h4' : 4 ≤ c') (h24' : c' ≤ 24) :
    Answers .plain s (completeIf b len c c' effect s) := by
  cases b
  · exact complete_answers id_facts h4' h24'
  · exact complete_answers h h4 h24

theorem extEffect_facts (o2 : Byte) (u : State) : EffectFacts .plain u (extEffect o2 u) := by
  unfold extEffect
  split
  · exact .ofKeepsFrame (shiftOperand_keepsFrame ..) fun h => shiftOperand_dataInv h ..
  · exact .ofKeepsFrame (testBit_keepsFrame ..) fun h => testBit_dataInv h ..
  · exact .ofKeepsFrame (resetBit_keepsFrame ..) fun h => resetBit_dataInv h ..
  · exact .ofKeepsFrame (setBit_keepsFrame ..) fun h => setBit_dataInv h ..

theorem extCost_range (o2 : Byte) : 4 ≤ extCost o2 ∧ extCost o2 ≤ 24 := by
  unfold extCost; split <;> decide

/-- Every instruction's `exec` runs an effect with the facts of its side, or it is an illegal row and takes the IllegalOpcode
outcome (R115, R321). -/
theorem exec_answers (i : Instr) (s : State) :
    Answers (sideOf i) s (exec i s) ∨ ∃ r, i = .illegal r ∧ exec i s = .next (s.raiseIllegal r.opcode) := by
  cases i
  · exact .inl (complete_answers id_facts (by decide) (by decide))
  · exact .inl (complete_answers (loadPair_facts _ _) (by decide) (by decide))
  · exact .inl (complete_answers (storeAPair_facts _) (by decide) (by decide))
  · exact .inl (complete_answers (incPair_facts _) (by decide) (by decide))
  · exact .inl (complete_answers (incOperand_facts _) (by decide) (by decide))
  · exact .inl (complete_answers (decOperand_facts _) (by decide) (by decide))
  · exact .inl (complete_answers (loadImmediate_facts _ _) (by decide) (by decide))
  · exact .inl (complete_answers (rotateA_facts _) (by decide) (by decide))
  · exact .inl (complete_answers (storeSp_facts _) (by decide) (by decide))
  · exact .inl (complete_answers (addToHL_facts _) (by decide) (by decide))
  · exact .inl (complete_answers (loadAPair_facts _) (by decide) (by decide))
  · exact .inl (complete_answers (decPair_facts _) (by decide) (by decide))
  · exact .inl (complete_answers (incOperand_facts _) (by decide) (by decide))
  · exact .inl (complete_answers (decOperand_facts _) (by decide) (by decide))
  · exact .inl (complete_answers (loadImmediate_facts _ _) (by decide) (by decide))
  · exact .inl (complete_answers (rotateA_facts _) (by decide) (by decide))
  · exact .inl (complete_answers id_facts (by decide) (by decide))
  · exact .inl (complete_answers (loadPair_facts _ _) (by decide) (by decide))
  · exact .inl (complete_answers (storeAPair_facts _) (by decide) (by decide))
  · exact .inl (complete_answers (incPair_facts _) (by decide) (by decide))
  · exact .inl (complete_answers (incOperand_facts _) (by decide) (by decide))
  · exact .inl (complete_answers (decOperand_facts _) (by decide) (by decide))
  · exact .inl (complete_answers (loadImmediate_facts _ _) (by decide) (by decide))
  · exact .inl (complete_answers (rotateA_facts _) (by decide) (by decide))
  · exact .inl (complete_answers (jumpRelative_facts _) (by decide) (by decide))
  · exact .inl (complete_answers (addToHL_facts _) (by decide) (by decide))
  · exact .inl (complete_answers (loadAPair_facts _) (by decide) (by decide))
  · exact .inl (complete_answers (decPair_facts _) (by decide) (by decide))
  · exact .inl (complete_answers (incOperand_facts _) (by decide) (by decide))
  · exact .inl (complete_answers (decOperand_facts _) (by decide) (by decide))
  · exact .inl (complete_answers (loadImmediate_facts _ _) (by decide) (by decide))
  · exact .inl (complete_answers (rotateA_facts _) (by decide) (by decide))
  · exact .inl (completeIf_answers (jumpRelative_facts _) (by decide) (by decide) (by decide) (by decide))
  · exact .inl (complete_answers (loadPair_facts _ _) (by decide) (by decide))
  · exact .inl (complete_answers (storeAMoveHL_facts _) (by decide) (by decide))
  · exact .inl (complete_answers (incPair_facts _) (by decide) (by decide))
  · exact .inl (complete_answers (incOperand_facts _) (by decide) (by decide))
  · exact .inl (complete_answers (decOperand_facts _) (by decide) (by decide))
  · exact .inl (complete_answers (loadImmediate_facts _ _) (by decide) (by decide))
  · exact .inl (complete_answers decimalAdjust_facts (by decide) (by decide))
  · exact .inl (completeIf_answers (jumpRelative_facts _) (by decide) (by decide) (by decide) (by decide))
  · exact .inl (complete_answers (addToHL_facts _) (by decide) (by decide))
  · exact .inl (complete_answers (loadAMoveHL_facts _) (by decide) (by decide))
  · exact .inl (complete_answers (decPair_facts _) (by decide) (by decide))
  · exact .inl (complete_answers (incOperand_facts _) (by decide) (by decide))
  · exact .inl (complete_answers (decOperand_facts _) (by decide) (by decide))
  · exact .inl (complete_answers (loadImmediate_facts _ _) (by decide) (by decide))
  · exact .inl (complete_answers complementA_facts (by decide) (by decide))
  · exact .inl (completeIf_answers (jumpRelative_facts _) (by decide) (by decide) (by decide) (by decide))
  · exact .inl (complete_answers (loadPair_facts _ _) (by decide) (by decide))
  · exact .inl (complete_answers (storeAMoveHL_facts _) (by decide) (by decide))
  · exact .inl (complete_answers (incPair_facts _) (by decide) (by decide))
  · exact .inl (complete_answers (incOperand_facts _) (by decide) (by decide))
  · exact .inl (complete_answers (decOperand_facts _) (by decide) (by decide))
  · exact .inl (complete_answers (loadImmediate_facts _ _) (by decide) (by decide))
  · exact .inl (complete_answers setCarryFlag_facts (by decide) (by decide))
  · exact .inl (completeIf_answers (jumpRelative_facts _) (by decide) (by decide) (by decide) (by decide))
  · exact .inl (complete_answers (addToHL_facts _) (by decide) (by decide))
  · exact .inl (complete_answers (loadAMoveHL_facts _) (by decide) (by decide))
  · exact .inl (complete_answers (decPair_facts _) (by decide) (by decide))
  · exact .inl (complete_answers (incOperand_facts _) (by decide) (by decide))
  · exact .inl (complete_answers (decOperand_facts _) (by decide) (by decide))
  · exact .inl (complete_answers (loadImmediate_facts _ _) (by decide) (by decide))
  · exact .inl (complete_answers complementCarryFlag_facts (by decide) (by decide))
  iterate 54 exact .inl (complete_answers (copyOperand_facts _ _) (by decide) (by decide))
  · exact .inl (complete_answers halt_facts (by decide) (by decide))
  iterate 9 exact .inl (complete_answers (copyOperand_facts _ _) (by decide) (by decide))
  iterate 64 exact .inl (complete_answers (accumulate_facts _ _) (by decide) (by decide))
  · exact .inl (completeIf_answers ret_facts (by decide) (by decide) (by decide) (by decide))
  · exact .inl (complete_answers (popPair_facts _) (by decide) (by decide))
  · exact .inl (completeIf_answers (jump_facts _) (by decide) (by decide) (by decide) (by decide))
  · exact .inl (complete_answers (jump_facts _) (by decide) (by decide))
  · exact .inl (completeIf_answers (call_facts _) (by decide) (by decide) (by decide) (by decide))
  · exact .inl (complete_answers (pushPair_facts _) (by decide) (by decide))
  · exact .inl (complete_answers (accumulate_facts _ _) (by decide) (by decide))
  · exact .inl (complete_answers (call_facts _) (by decide) (by decide))
  · exact .inl (completeIf_answers ret_facts (by decide) (by decide) (by decide) (by decide))
  · exact .inl (complete_answers ret_facts (by decide) (by decide))
  · exact .inl (completeIf_answers (jump_facts _) (by decide) (by decide) (by decide) (by decide))
  · exact .inl (completeIf_answers (call_facts _) (by decide) (by decide) (by decide) (by decide))
  · exact .inl (complete_answers (call_facts _) (by decide) (by decide))
  · exact .inl (complete_answers (accumulate_facts _ _) (by decide) (by decide))
  · exact .inl (complete_answers (call_facts _) (by decide) (by decide))
  · exact .inl (completeIf_answers ret_facts (by decide) (by decide) (by decide) (by decide))
  · exact .inl (complete_answers (popPair_facts _) (by decide) (by decide))
  · exact .inl (completeIf_answers (jump_facts _) (by decide) (by decide) (by decide) (by decide))
  · exact .inl (completeIf_answers (call_facts _) (by decide) (by decide) (by decide) (by decide))
  · exact .inl (complete_answers (pushPair_facts _) (by decide) (by decide))
  · exact .inl (complete_answers (accumulate_facts _ _) (by decide) (by decide))
  · exact .inl (complete_answers (call_facts _) (by decide) (by decide))
  · exact .inl (completeIf_answers ret_facts (by decide) (by decide) (by decide) (by decide))
  · exact .inl (complete_answers retEnable_facts (by decide) (by decide))
  · exact .inl (completeIf_answers (jump_facts _) (by decide) (by decide) (by decide) (by decide))
  · exact .inl (completeIf_answers (call_facts _) (by decide) (by decide) (by decide) (by decide))
  · exact .inl (complete_answers (accumulate_facts _ _) (by decide) (by decide))
  · exact .inl (complete_answers (call_facts _) (by decide) (by decide))
  · exact .inl (complete_answers (storeA_facts _) (by decide) (by decide))
  · exact .inl (complete_answers (popPair_facts _) (by decide) (by decide))
  · exact .inl (complete_answers storeAHighC_facts (by decide) (by decide))
  · exact .inl (complete_answers (pushPair_facts _) (by decide) (by decide))
  · exact .inl (complete_answers (accumulate_facts _ _) (by decide) (by decide))
  · exact .inl (complete_answers (call_facts _) (by decide) (by decide))
  · exact .inl (complete_answers (addToSp_facts _) (by decide) (by decide))
  · exact .inl (complete_answers jumpHL_facts (by decide) (by decide))
  · exact .inl (complete_answers (storeA_facts _) (by decide) (by decide))
  · exact .inl (complete_answers (accumulate_facts _ _) (by decide) (by decide))
  · exact .inl (complete_answers (call_facts _) (by decide) (by decide))
  · exact .inl (complete_answers (loadA_facts _) (by decide) (by decide))
  · exact .inl (complete_answers (popPair_facts _) (by decide) (by decide))
  · exact .inl (complete_answers loadAHighC_facts (by decide) (by decide))
  · exact .inl (complete_answers disable_facts (by decide) (by decide))
  · exact .inl (complete_answers (pushPair_facts _) (by decide) (by decide))
  · exact .inl (complete_answers (accumulate_facts _ _) (by decide) (by decide))
  · exact .inl (complete_answers (call_facts _) (by decide) (by decide))
  · exact .inl (complete_answers (loadHLSpPlus_facts _) (by decide) (by decide))
  · exact .inl (complete_answers copyHLToSp_facts (by decide) (by decide))
  · exact .inl (complete_answers (loadA_facts _) (by decide) (by decide))
  · exact .inl (complete_answers enable_facts (by decide) (by decide))
  · exact .inl (complete_answers (accumulate_facts _ _) (by decide) (by decide))
  · exact .inl (complete_answers (call_facts _) (by decide) (by decide))
  iterate 64 exact .inl (complete_answers (shiftOperand_facts _ _) (by decide) (by decide))
  iterate 64 exact .inl (complete_answers (testBit_facts _ _) (by decide) (by decide))
  iterate 64 exact .inl (complete_answers (resetBit_facts _ _) (by decide) (by decide))
  iterate 64 exact .inl (complete_answers (setBit_facts _ _) (by decide) (by decide))
  · exact .inl (complete_answers (extEffect_facts _) (extCost_range _).1 (extCost_range _).2)
  · exact .inr ⟨.D3, rfl, rfl⟩
  · exact .inr ⟨.DB, rfl, rfl⟩
  · exact .inr ⟨.DD, rfl, rfl⟩
  · exact .inr ⟨.E3, rfl, rfl⟩
  · exact .inr ⟨.E4, rfl, rfl⟩
  · exact .inr ⟨.EB, rfl, rfl⟩
  · exact .inr ⟨.EC, rfl, rfl⟩
  · exact .inr ⟨.ED, rfl, rfl⟩
  · exact .inr ⟨.F4, rfl, rfl⟩
  · exact .inr ⟨.FC, rfl, rfl⟩
  · exact .inr ⟨.FD, rfl, rfl⟩

end Sys2Proof.Machine
end

