-- ==== Sys2Proof/Laws/Families.lean ====
section
/-! SUPPORT. What `exec` runs for the rows of one rule, said once per rule over its operand fields, so that a proof about a
family never splits over its rows again. -/

namespace Sys2Proof.Machine

variable (s : State)

theorem exec_ldRegReg (r r' : Reg8) :
    exec (.ldRegReg r r') s = complete 1 4 (copyOperand (.reg r) (.reg r')) s := by
  cases r <;> cases r' <;> rfl

theorem exec_ldRegIndHL (r : Reg8) : exec (.ldRegIndHL r) s = complete 1 8 (copyOperand (.reg r) .indHL) s := by
  cases r <;> rfl

theorem exec_ldIndHLReg (r : Reg8) : exec (.ldIndHLReg r) s = complete 1 8 (copyOperand .indHL (.reg r)) s := by
  cases r <;> rfl

theorem exec_ldImm (o : Operand8) (n : Byte) :
    exec (.ldImm o n) s = complete 2 (operandCost 8 12 o) (loadImmediate o n) s := by
  rcases o with r | _
  · cases r <;> rfl
  · rfl

theorem exec_ldPairImm (r : Reg16) (nn : Word) : exec (.ldPairImm r nn) s = complete 3 12 (loadPair r nn) s := by
  cases r <;> rfl

theorem exec_alu (op : AluOp) (src : AluSource) :
    exec (.alu op src) s = complete (aluLength src) (aluCost src) (accumulate op src) s := by
  cases op <;> rcases src with r | _ | n <;> first | rfl | (cases r <;> rfl)

theorem exec_inc8 (o : Operand8) : exec (.inc8 o) s = complete 1 (operandCost 4 12 o) (incOperand o) s := by
  rcases o with r | _
  · cases r <;> rfl
  · rfl

theorem exec_dec8 (o : Operand8) : exec (.dec8 o) s = complete 1 (operandCost 4 12 o) (decOperand o) s := by
  rcases o with r | _
  · cases r <;> rfl
  · rfl

theorem exec_addHL (r : Reg16) : exec (.addHL r) s = complete 1 8 (addToHL r) s := by cases r <;> rfl

theorem exec_inc16 (r : Reg16) : exec (.inc16 r) s = complete 1 8 (incPair r) s := by cases r <;> rfl

theorem exec_dec16 (r : Reg16) : exec (.dec16 r) s = complete 1 8 (decPair r) s := by cases r <;> rfl

theorem exec_accRotate (op : AccRotate) : exec (.accRotate op) s = complete 1 4 (rotateA op) s := by
  cases op <;> rfl

theorem exec_shift (op : ShiftOp) (o : Operand8) :
    exec (.shift op o) s = complete 2 (operandCost 8 16 o) (shiftOperand op o) s := by
  rcases o with r | _
  · cases op <;> cases r <;> rfl
  · cases op <;> rfl

theorem exec_bit (b : Fin 8) (o : Operand8) :
    exec (.bit b o) s = complete 2 (operandCost 8 12 o) (testBit b o) s := by
  rcases o with r | _
  · cases r <;> fin_cases b <;> rfl
  · fin_cases b <;> rfl

theorem exec_res (b : Fin 8) (o : Operand8) :
    exec (.res b o) s = complete 2 (operandCost 8 16 o) (resetBit b o) s := by
  rcases o with r | _
  · cases r <;> fin_cases b <;> rfl
  · fin_cases b <;> rfl

theorem exec_set (b : Fin 8) (o : Operand8) :
    exec (.set b o) s = complete 2 (operandCost 8 16 o) (setBit b o) s := by
  rcases o with r | _
  · cases r <;> fin_cases b <;> rfl
  · fin_cases b <;> rfl

theorem exec_jpCond (cc : Cond) (nn : Word) :
    exec (.jpCond cc nn) s = completeIf (s.cond cc) 3 16 12 (jump nn) s := by cases cc <;> rfl

theorem exec_jrCond (cc : Cond) (e : Byte) :
    exec (.jrCond cc e) s = completeIf (s.cond cc) 2 12 8 (jumpRelative e) s := by cases cc <;> rfl

theorem exec_callCond (cc : Cond) (nn : Word) :
    exec (.callCond cc nn) s = completeIf (s.cond cc) 3 24 12 (call nn) s := by cases cc <;> rfl

theorem exec_retCond (cc : Cond) : exec (.retCond cc) s = completeIf (s.cond cc) 1 20 8 ret s := by cases cc <;> rfl

theorem exec_rst (y : Fin 8) : exec (.rst y) s = complete 1 16 (call (BitVec.ofNat 16 (8 * y.val))) s := by
  fin_cases y <;> rfl

theorem exec_push (q : Pair) : exec (.push q) s = complete 1 16 (pushPair q) s := by cases q <;> rfl

theorem exec_pop (q : Pair) : exec (.pop q) s = complete 1 12 (popPair q) s := by cases q <;> rfl

theorem exec_illegal (k : IllegalRow) : exec (.illegal k) s = .next (s.raiseIllegal k.opcode) := by cases k <;> rfl

end Sys2Proof.Machine
end

