-- ==== Sys2Proof/Tests/Slice0.lean ====
section
/-! SUPPORT. Tests of the model: what WellFormed refuses, decoding from bytes written out from the spec's encodings, one step
against the spec's own test vectors (95_test_vectors.md), and a witness for the premises of every statement that has any. -/

namespace Sys2Proof.Tests

open Sys2Proof Sys2Proof.Machine

/-! ## Helpers -/

/-- The base state of the step vectors: reset(false) with SP = 0xDFF0 and PC = 0xC000. -/
def base : State := { State.reset with sp := 0xDFF0, pc := 0xC000 }

/-- One byte put into memory. -/
def poke (s : State) (x : Word) (v : Byte) : State := s.writeByte x v

/-- Bytes put into memory at rising addresses. -/
def pokeAll (s : State) (x : Word) : List Byte → State
  | [] => s
  | v :: vs => pokeAll (poke s x v) (x + 1) vs

/-- One step of a state with these bytes at PC answers a next state that passes the test. -/
def check (s : State) (bytes : List Byte) (p : State → Bool) : Bool :=
  match step (pokeAll s s.pc bytes) with
  | .next t => p t
  | .fault _ => false
  | .refused _ => false

/-- Each list of bytes decodes to its instruction with nothing left over, and the instruction is well-formed. -/
def allDecode : List (List Byte × Instr) → Bool
  | [] => true
  | (bytes, i) :: rest =>
    (match decode bytes with
      | .ok (j, tail) => decide (j = i ∧ tail = []) && i.isWhole
      | .error _ => false) && allDecode rest

/-! ## WellFormed, and the decoder's refusals -/

/-- The one check of WellFormed: the entry PREFIX CB without its second byte is no whole instruction (R106, R112). -/
theorem test_prefix_alone_is_ill_formed : ¬ Instr.prefix_CB.WellFormed := by decide

theorem test_other_rows_are_well_formed : (Instr.ld_BC_nn 0x1234).WellFormed ∧ Instr.illegal_D3.WellFormed := by decide

/-- Bytes that end inside an instruction are refused by name. -/
theorem test_short_bytes_are_refused :
    decode [] = .error .noBytes ∧ decode [0x06] = .error (.truncated 0x06) ∧ decode [0xC3, 0x00] = .error (.truncated 0xC3) :=
  ⟨rfl, rfl, rfl⟩

/-- A list that ends after 0xCB holds the entry PREFIX CB alone (log entry 7). -/
theorem test_prefix_byte_alone : decode [0xCB] = .ok (.prefix_CB, []) := rfl

/-- The table's numbering (R106): an opcode byte, and an extended row with 0xCB in the high byte. -/
theorem test_table_numbers :
    decodeTableWord 8 0x80 = some .add_A_B ∧ decodeTableWord 16 0xCB07 = some .rlc_A ∧
    decodeTableWord 8 0x01 = some (.ld_BC_nn 0) ∧ decodeTableWord 8 0xCB = some .prefix_CB ∧
    decodeTableWord 24 0x123401 = some (.ld_BC_nn 0x1234) := by decide

/-- The first step after reset runs the instruction that `withFetchWord` placed. -/
theorem test_placed_word_runs : step (State.reset.withFetchWord 16 0xCB3F) =
    exec .srl_A (State.reset.withFetchWord 16 0xCB3F) := rfl

/-- One word per family, bit by bit from the encodings of R92 to R98. -/
theorem test_words_bit_by_bit : allDecode
    [([0b01_000_001], .ld_B_C), ([0b01_110_111], .ld_indHL_A), ([0b00_100_110, 0x7F], .ld_H_n 0x7F),
     ([0b00_11_0001, 0xFE, 0xFF], .ld_SP_nn 0xFFFE), ([0b10_001_011], .adc_A_E), ([0b11_111_110, 0x40], .cp_n 0x40),
     ([0b00_101_101], .dec_L), ([0b00_10_1001], .add_HL_HL), ([0b00_01_1011], .dec_DE),
     ([0xCB, 0b00_110_011], .swap_E), ([0xCB, 0b01_101_110], .bit_5_indHL), ([0xCB, 0b10_000_111], .res_0_A),
     ([0xCB, 0b11_011_000], .set_3_B), ([0b110_10_010, 0x34, 0x12], .jp_NC_nn 0x1234), ([0b001_11_000, 0x80], .jr_C_e 0x80),
     ([0b110_00_100, 0x00, 0x40], .call_NZ_nn 0x4000), ([0b110_01_000], .ret_Z), ([0b11_101_111], .rst_28),
     ([0b11_11_0001], .pop_AF), ([0b01_110_110], .halt)] := by decide

/-! ## Every constructor decodes from its bytes: one theorem per row of the opcode maps (R100, R101), operands 0x34 0x12,
0x5A, 0xFB as the encoding column lays them out -/

theorem test_decode_base_row_0 : allDecode
    [([0x00], .nop), ([0x01, 0x34, 0x12], .ld_BC_nn 0x1234), ([0x02], .ld_indBC_A), ([0x03], .inc_BC),
     ([0x04], .inc_B), ([0x05], .dec_B), ([0x06, 0x5A], .ld_B_n 0x5A), ([0x07], .rlca),
     ([0x08, 0x34, 0x12], .ld_ind_nn_SP 0x1234), ([0x09], .add_HL_BC), ([0x0A], .ld_A_indBC), ([0x0B], .dec_BC),
     ([0x0C], .inc_C), ([0x0D], .dec_C), ([0x0E, 0x5A], .ld_C_n 0x5A), ([0x0F], .rrca)] := by decide

theorem test_decode_base_row_1 : allDecode
    [([0x10, 0x5A], .stop 0x5A), ([0x11, 0x34, 0x12], .ld_DE_nn 0x1234), ([0x12], .ld_indDE_A), ([0x13], .inc_DE),
     ([0x14], .inc_D), ([0x15], .dec_D), ([0x16, 0x5A], .ld_D_n 0x5A), ([0x17], .rla),
     ([0x18, 0xFB], .jr_e 0xFB), ([0x19], .add_HL_DE), ([0x1A], .ld_A_indDE), ([0x1B], .dec_DE),
     ([0x1C], .inc_E), ([0x1D], .dec_E), ([0x1E, 0x5A], .ld_E_n 0x5A), ([0x1F], .rra)] := by decide

theorem test_decode_base_row_2 : allDecode
    [([0x20, 0xFB], .jr_NZ_e 0xFB), ([0x21, 0x34, 0x12], .ld_HL_nn 0x1234), ([0x22], .ld_indHLI_A), ([0x23], .inc_HL),
     ([0x24], .inc_H), ([0x25], .dec_H), ([0x26, 0x5A], .ld_H_n 0x5A), ([0x27], .daa),
     ([0x28, 0xFB], .jr_Z_e 0xFB), ([0x29], .add_HL_HL), ([0x2A], .ld_A_indHLI), ([0x2B], .dec_HL),
     ([0x2C], .inc_L), ([0x2D], .dec_L), ([0x2E, 0x5A], .ld_L_n 0x5A), ([0x2F], .cpl)] := by decide

theorem test_decode_base_row_3 : allDecode
    [([0x30, 0xFB], .jr_NC_e 0xFB), ([0x31, 0x34, 0x12], .ld_SP_nn 0x1234), ([0x32], .ld_indHLD_A), ([0x33], .inc_SP),
     ([0x34], .inc_indHL), ([0x35], .dec_indHL), ([0x36, 0x5A], .ld_indHL_n 0x5A), ([0x37], .scf),
     ([0x38, 0xFB], .jr_C_e 0xFB), ([0x39], .add_HL_SP), ([0x3A], .ld_A_indHLD), ([0x3B], .dec_SP),
     ([0x3C], .inc_A), ([0x3D], .dec_A), ([0x3E, 0x5A], .ld_A_n 0x5A), ([0x3F], .ccf)] := by decide

theorem test_decode_base_row_4 : allDecode
    [([0x40], .ld_B_B), ([0x41], .ld_B_C), ([0x42], .ld_B_D), ([0x43], .ld_B_E),
     ([0x44], .ld_B_H), ([0x45], .ld_B_L), ([0x46], .ld_B_indHL), ([0x47], .ld_B_A),
     ([0x48], .ld_C_B), ([0x49], .ld_C_C), ([0x4A], .ld_C_D), ([0x4B], .ld_C_E),
     ([0x4C], .ld_C_H), ([0x4D], .ld_C_L), ([0x4E], .ld_C_indHL), ([0x4F], .ld_C_A)] := by decide

theorem test_decode_base_row_5 : allDecode
    [([0x50], .ld_D_B), ([0x51], .ld_D_C), ([0x52], .ld_D_D), ([0x53], .ld_D_E),
     ([0x54], .ld_D_H), ([0x55], .ld_D_L), ([0x56], .ld_D_indHL), ([0x57], .ld_D_A),
     ([0x58], .ld_E_B), ([0x59], .ld_E_C), ([0x5A], .ld_E_D), ([0x5B], .ld_E_E),
     ([0x5C], .ld_E_H), ([0x5D], .ld_E_L), ([0x5E], .ld_E_indHL), ([0x5F], .ld_E_A)] := by decide

theorem test_decode_base_row_6 : allDecode
    [([0x60], .ld_H_B), ([0x61], .ld_H_C), ([0x62], .ld_H_D), ([0x63], .ld_H_E),
     ([0x64], .ld_H_H), ([0x65], .ld_H_L), ([0x66], .ld_H_indHL), ([0x67], .ld_H_A),
     ([0x68], .ld_L_B), ([0x69], .ld_L_C), ([0x6A], .ld_L_D), ([0x6B], .ld_L_E),
     ([0x6C], .ld_L_H), ([0x6D], .ld_L_L), ([0x6E], .ld_L_indHL), ([0x6F], .ld_L_A)] := by decide

theorem test_decode_base_row_7 : allDecode
    [([0x70], .ld_indHL_B), ([0x71], .ld_indHL_C), ([0x72], .ld_indHL_D), ([0x73], .ld_indHL_E),
     ([0x74], .ld_indHL_H), ([0x75], .ld_indHL_L), ([0x76], .halt), ([0x77], .ld_indHL_A),
     ([0x78], .ld_A_B), ([0x79], .ld_A_C), ([0x7A], .ld_A_D), ([0x7B], .ld_A_E),
     ([0x7C], .ld_A_H), ([0x7D], .ld_A_L), ([0x7E], .ld_A_indHL), ([0x7F], .ld_A_A)] := by decide

theorem test_decode_base_row_8 : allDecode
    [([0x80], .add_A_B), ([0x81], .add_A_C), ([0x82], .add_A_D), ([0x83], .add_A_E),
     ([0x84], .add_A_H), ([0x85], .add_A_L), ([0x86], .add_A_indHL), ([0x87], .add_A_A),
     ([0x88], .adc_A_B), ([0x89], .adc_A_C), ([0x8A], .adc_A_D), ([0x8B], .adc_A_E),
     ([0x8C], .adc_A_H), ([0x8D], .adc_A_L), ([0x8E], .adc_A_indHL), ([0x8F], .adc_A_A)] := by decide

theorem test_decode_base_row_9 : allDecode
    [([0x90], .sub_B), ([0x91], .sub_C), ([0x92], .sub_D), ([0x93], .sub_E),
     ([0x94], .sub_H), ([0x95], .sub_L), ([0x96], .sub_indHL), ([0x97], .sub_A),
     ([0x98], .sbc_A_B), ([0x99], .sbc_A_C), ([0x9A], .sbc_A_D), ([0x9B], .sbc_A_E),
     ([0x9C], .sbc_A_H), ([0x9D], .sbc_A_L), ([0x9E], .sbc_A_indHL), ([0x9F], .sbc_A_A)] := by decide

theorem test_decode_base_row_A : allDecode
    [([0xA0], .and_B), ([0xA1], .and_C), ([0xA2], .and_D), ([0xA3], .and_E),
     ([0xA4], .and_H), ([0xA5], .and_L), ([0xA6], .and_indHL), ([0xA7], .and_A),
     ([0xA8], .xor_B), ([0xA9], .xor_C), ([0xAA], .xor_D), ([0xAB], .xor_E),
     ([0xAC], .xor_H), ([0xAD], .xor_L), ([0xAE], .xor_indHL), ([0xAF], .xor_A)] := by decide

theorem test_decode_base_row_B : allDecode
    [([0xB0], .or_B), ([0xB1], .or_C), ([0xB2], .or_D), ([0xB3], .or_E),
     ([0xB4], .or_H), ([0xB5], .or_L), ([0xB6], .or_indHL), ([0xB7], .or_A),
     ([0xB8], .cp_B), ([0xB9], .cp_C), ([0xBA], .cp_D), ([0xBB], .cp_E),
     ([0xBC], .cp_H), ([0xBD], .cp_L), ([0xBE], .cp_indHL), ([0xBF], .cp_A)] := by decide

theorem test_decode_base_row_C : allDecode
    [([0xC0], .ret_NZ), ([0xC1], .pop_BC), ([0xC2, 0x34, 0x12], .jp_NZ_nn 0x1234), ([0xC3, 0x34, 0x12], .jp_nn 0x1234),
     ([0xC4, 0x34, 0x12], .call_NZ_nn 0x1234), ([0xC5], .push_BC), ([0xC6, 0x5A], .add_A_n 0x5A), ([0xC7], .rst_00),
     ([0xC8], .ret_Z), ([0xC9], .ret), ([0xCA, 0x34, 0x12], .jp_Z_nn 0x1234), ([0xCC, 0x34, 0x12], .call_Z_nn 0x1234),
     ([0xCD, 0x34, 0x12], .call_nn 0x1234), ([0xCE, 0x5A], .adc_A_n 0x5A), ([0xCF], .rst_08)] := by decide

theorem test_decode_base_row_D : allDecode
    [([0xD0], .ret_NC), ([0xD1], .pop_DE), ([0xD2, 0x34, 0x12], .jp_NC_nn 0x1234), ([0xD3], .illegal_D3),
     ([0xD4, 0x34, 0x12], .call_NC_nn 0x1234), ([0xD5], .push_DE), ([0xD6, 0x5A], .sub_n 0x5A), ([0xD7], .rst_10),
     ([0xD8], .ret_C), ([0xD9], .reti), ([0xDA, 0x34, 0x12], .jp_C_nn 0x1234), ([0xDB], .illegal_DB),
     ([0xDC, 0x34, 0x12], .call_C_nn 0x1234), ([0xDD], .illegal_DD), ([0xDE, 0x5A], .sbc_A_n 0x5A), ([0xDF], .rst_18)] := by decide

theorem test_decode_base_row_E : allDecode
    [([0xE0, 0x5A], .ldh_ind_n_A 0x5A), ([0xE1], .pop_HL), ([0xE2], .ld_indC_A), ([0xE3], .illegal_E3),
     ([0xE4], .illegal_E4), ([0xE5], .push_HL), ([0xE6, 0x5A], .and_n 0x5A), ([0xE7], .rst_20),
     ([0xE8, 0xFB], .add_SP_e 0xFB), ([0xE9], .jp_HL), ([0xEA, 0x34, 0x12], .ld_ind_nn_A 0x1234), ([0xEB], .illegal_EB),
     ([0xEC], .illegal_EC), ([0xED], .illegal_ED), ([0xEE, 0x5A], .xor_n 0x5A), ([0xEF], .rst_28)] := by decide

theorem test_decode_base_row_F : allDecode
    [([0xF0, 0x5A], .ldh_A_ind_n 0x5A), ([0xF1], .pop_AF), ([0xF2], .ld_A_indC), ([0xF3], .di),
     ([0xF4], .illegal_F4), ([0xF5], .push_AF), ([0xF6, 0x5A], .or_n 0x5A), ([0xF7], .rst_30),
     ([0xF8, 0xFB], .ld_HL_SPplus_e 0xFB), ([0xF9], .ld_SP_HL), ([0xFA, 0x34, 0x12], .ld_A_ind_nn 0x1234), ([0xFB], .ei),
     ([0xFC], .illegal_FC), ([0xFD], .illegal_FD), ([0xFE, 0x5A], .cp_n 0x5A), ([0xFF], .rst_38)] := by decide

theorem test_decode_extended_row_0 : allDecode
    [([0xCB, 0x00], .rlc_B), ([0xCB, 0x01], .rlc_C), ([0xCB, 0x02], .rlc_D), ([0xCB, 0x03], .rlc_E),
     ([0xCB, 0x04], .rlc_H), ([0xCB, 0x05], .rlc_L), ([0xCB, 0x06], .rlc_indHL), ([0xCB, 0x07], .rlc_A),
     ([0xCB, 0x08], .rrc_B), ([0xCB, 0x09], .rrc_C), ([0xCB, 0x0A], .rrc_D), ([0xCB, 0x0B], .rrc_E),
     ([0xCB, 0x0C], .rrc_H), ([0xCB, 0x0D], .rrc_L), ([0xCB, 0x0E], .rrc_indHL), ([0xCB, 0x0F], .rrc_A)] := by decide

theorem test_decode_extended_row_1 : allDecode
    [([0xCB, 0x10], .rl_B), ([0xCB, 0x11], .rl_C), ([0xCB, 0x12], .rl_D), ([0xCB, 0x13], .rl_E),
     ([0xCB, 0x14], .rl_H), ([0xCB, 0x15], .rl_L), ([0xCB, 0x16], .rl_indHL), ([0xCB, 0x17], .rl_A),
     ([0xCB, 0x18], .rr_B), ([0xCB, 0x19], .rr_C), ([0xCB, 0x1A], .rr_D), ([0xCB, 0x1B], .rr_E),
     ([0xCB, 0x1C], .rr_H), ([0xCB, 0x1D], .rr_L), ([0xCB, 0x1E], .rr_indHL), ([0xCB, 0x1F], .rr_A)] := by decide

theorem test_decode_extended_row_2 : allDecode
    [([0xCB, 0x20], .sla_B), ([0xCB, 0x21], .sla_C), ([0xCB, 0x22], .sla_D), ([0xCB, 0x23], .sla_E),
     ([0xCB, 0x24], .sla_H), ([0xCB, 0x25], .sla_L), ([0xCB, 0x26], .sla_indHL), ([0xCB, 0x27], .sla_A),
     ([0xCB, 0x28], .sra_B), ([0xCB, 0x29], .sra_C), ([0xCB, 0x2A], .sra_D), ([0xCB, 0x2B], .sra_E),
     ([0xCB, 0x2C], .sra_H), ([0xCB, 0x2D], .sra_L), ([0xCB, 0x2E], .sra_indHL), ([0xCB, 0x2F], .sra_A)] := by decide

theorem test_decode_extended_row_3 : allDecode
    [([0xCB, 0x30], .swap_B), ([0xCB, 0x31], .swap_C), ([0xCB, 0x32], .swap_D), ([0xCB, 0x33], .swap_E),
     ([0xCB, 0x34], .swap_H), ([0xCB, 0x35], .swap_L), ([0xCB, 0x36], .swap_indHL), ([0xCB, 0x37], .swap_A),
     ([0xCB, 0x38], .srl_B), ([0xCB, 0x39], .srl_C), ([0xCB, 0x3A], .srl_D), ([0xCB, 0x3B], .srl_E),
     ([0xCB, 0x3C], .srl_H), ([0xCB, 0x3D], .srl_L), ([0xCB, 0x3E], .srl_indHL), ([0xCB, 0x3F], .srl_A)] := by decide

theorem test_decode_extended_row_4 : allDecode
    [([0xCB, 0x40], .bit_0_B), ([0xCB, 0x41], .bit_0_C), ([0xCB, 0x42], .bit_0_D), ([0xCB, 0x43], .bit_0_E),
     ([0xCB, 0x44], .bit_0_H), ([0xCB, 0x45], .bit_0_L), ([0xCB, 0x46], .bit_0_indHL), ([0xCB, 0x47], .bit_0_A),
     ([0xCB, 0x48], .bit_1_B), ([0xCB, 0x49], .bit_1_C), ([0xCB, 0x4A], .bit_1_D), ([0xCB, 0x4B], .bit_1_E),
     ([0xCB, 0x4C], .bit_1_H), ([0xCB, 0x4D], .bit_1_L), ([0xCB, 0x4E], .bit_1_indHL), ([0xCB, 0x4F], .bit_1_A)] := by decide

theorem test_decode_extended_row_5 : allDecode
    [([0xCB, 0x50], .bit_2_B), ([0xCB, 0x51], .bit_2_C), ([0xCB, 0x52], .bit_2_D), ([0xCB, 0x53], .bit_2_E),
     ([0xCB, 0x54], .bit_2_H), ([0xCB, 0x55], .bit_2_L), ([0xCB, 0x56], .bit_2_indHL), ([0xCB, 0x57], .bit_2_A),
     ([0xCB, 0x58], .bit_3_B), ([0xCB, 0x59], .bit_3_C), ([0xCB, 0x5A], .bit_3_D), ([0xCB, 0x5B], .bit_3_E),
     ([0xCB, 0x5C], .bit_3_H), ([0xCB, 0x5D], .bit_3_L), ([0xCB, 0x5E], .bit_3_indHL), ([0xCB, 0x5F], .bit_3_A)] := by decide

theorem test_decode_extended_row_6 : allDecode
    [([0xCB, 0x60], .bit_4_B), ([0xCB, 0x61], .bit_4_C), ([0xCB, 0x62], .bit_4_D), ([0xCB, 0x63], .bit_4_E),
     ([0xCB, 0x64], .bit_4_H), ([0xCB, 0x65], .bit_4_L), ([0xCB, 0x66], .bit_4_indHL), ([0xCB, 0x67], .bit_4_A),
     ([0xCB, 0x68], .bit_5_B), ([0xCB, 0x69], .bit_5_C), ([0xCB, 0x6A], .bit_5_D), ([0xCB, 0x6B], .bit_5_E),
     ([0xCB, 0x6C], .bit_5_H), ([0xCB, 0x6D], .bit_5_L), ([0xCB, 0x6E], .bit_5_indHL), ([0xCB, 0x6F], .bit_5_A)] := by decide

theorem test_decode_extended_row_7 : allDecode
    [([0xCB, 0x70], .bit_6_B), ([0xCB, 0x71], .bit_6_C), ([0xCB, 0x72], .bit_6_D), ([0xCB, 0x73], .bit_6_E),
     ([0xCB, 0x74], .bit_6_H), ([0xCB, 0x75], .bit_6_L), ([0xCB, 0x76], .bit_6_indHL), ([0xCB, 0x77], .bit_6_A),
     ([0xCB, 0x78], .bit_7_B), ([0xCB, 0x79], .bit_7_C), ([0xCB, 0x7A], .bit_7_D), ([0xCB, 0x7B], .bit_7_E),
     ([0xCB, 0x7C], .bit_7_H), ([0xCB, 0x7D], .bit_7_L), ([0xCB, 0x7E], .bit_7_indHL), ([0xCB, 0x7F], .bit_7_A)] := by decide

theorem test_decode_extended_row_8 : allDecode
    [([0xCB, 0x80], .res_0_B), ([0xCB, 0x81], .res_0_C), ([0xCB, 0x82], .res_0_D), ([0xCB, 0x83], .res_0_E),
     ([0xCB, 0x84], .res_0_H), ([0xCB, 0x85], .res_0_L), ([0xCB, 0x86], .res_0_indHL), ([0xCB, 0x87], .res_0_A),
     ([0xCB, 0x88], .res_1_B), ([0xCB, 0x89], .res_1_C), ([0xCB, 0x8A], .res_1_D), ([0xCB, 0x8B], .res_1_E),
     ([0xCB, 0x8C], .res_1_H), ([0xCB, 0x8D], .res_1_L), ([0xCB, 0x8E], .res_1_indHL), ([0xCB, 0x8F], .res_1_A)] := by decide

theorem test_decode_extended_row_9 : allDecode
    [([0xCB, 0x90], .res_2_B), ([0xCB, 0x91], .res_2_C), ([0xCB, 0x92], .res_2_D), ([0xCB, 0x93], .res_2_E),
     ([0xCB, 0x94], .res_2_H), ([0xCB, 0x95], .res_2_L), ([0xCB, 0x96], .res_2_indHL), ([0xCB, 0x97], .res_2_A),
     ([0xCB, 0x98], .res_3_B), ([0xCB, 0x99], .res_3_C), ([0xCB, 0x9A], .res_3_D), ([0xCB, 0x9B], .res_3_E),
     ([0xCB, 0x9C], .res_3_H), ([0xCB, 0x9D], .res_3_L), ([0xCB, 0x9E], .res_3_indHL), ([0xCB, 0x9F], .res_3_A)] := by decide

theorem test_decode_extended_row_A : allDecode
    [([0xCB, 0xA0], .res_4_B), ([0xCB, 0xA1], .res_4_C), ([0xCB, 0xA2], .res_4_D), ([0xCB, 0xA3], .res_4_E),
     ([0xCB, 0xA4], .res_4_H), ([0xCB, 0xA5], .res_4_L), ([0xCB, 0xA6], .res_4_indHL), ([0xCB, 0xA7], .res_4_A),
     ([0xCB, 0xA8], .res_5_B), ([0xCB, 0xA9], .res_5_C), ([0xCB, 0xAA], .res_5_D), ([0xCB, 0xAB], .res_5_E),
     ([0xCB, 0xAC], .res_5_H), ([0xCB, 0xAD], .res_5_L), ([0xCB, 0xAE], .res_5_indHL), ([0xCB, 0xAF], .res_5_A)] := by decide

theorem test_decode_extended_row_B : allDecode
    [([0xCB, 0xB0], .res_6_B), ([0xCB, 0xB1], .res_6_C), ([0xCB, 0xB2], .res_6_D), ([0xCB, 0xB3], .res_6_E),
     ([0xCB, 0xB4], .res_6_H), ([0xCB, 0xB5], .res_6_L), ([0xCB, 0xB6], .res_6_indHL), ([0xCB, 0xB7], .res_6_A),
     ([0xCB, 0xB8], .res_7_B), ([0xCB, 0xB9], .res_7_C), ([0xCB, 0xBA], .res_7_D), ([0xCB, 0xBB], .res_7_E),
     ([0xCB, 0xBC], .res_7_H), ([0xCB, 0xBD], .res_7_L), ([0xCB, 0xBE], .res_7_indHL), ([0xCB, 0xBF], .res_7_A)] := by decide

theorem test_decode_extended_row_C : allDecode
    [([0xCB, 0xC0], .set_0_B), ([0xCB, 0xC1], .set_0_C), ([0xCB, 0xC2], .set_0_D), ([0xCB, 0xC3], .set_0_E),
     ([0xCB, 0xC4], .set_0_H), ([0xCB, 0xC5], .set_0_L), ([0xCB, 0xC6], .set_0_indHL), ([0xCB, 0xC7], .set_0_A),
     ([0xCB, 0xC8], .set_1_B), ([0xCB, 0xC9], .set_1_C), ([0xCB, 0xCA], .set_1_D), ([0xCB, 0xCB], .set_1_E),
     ([0xCB, 0xCC], .set_1_H), ([0xCB, 0xCD], .set_1_L), ([0xCB, 0xCE], .set_1_indHL), ([0xCB, 0xCF], .set_1_A)] := by decide

theorem test_decode_extended_row_D : allDecode
    [([0xCB, 0xD0], .set_2_B), ([0xCB, 0xD1], .set_2_C), ([0xCB, 0xD2], .set_2_D), ([0xCB, 0xD3], .set_2_E),
     ([0xCB, 0xD4], .set_2_H), ([0xCB, 0xD5], .set_2_L), ([0xCB, 0xD6], .set_2_indHL), ([0xCB, 0xD7], .set_2_A),
     ([0xCB, 0xD8], .set_3_B), ([0xCB, 0xD9], .set_3_C), ([0xCB, 0xDA], .set_3_D), ([0xCB, 0xDB], .set_3_E),
     ([0xCB, 0xDC], .set_3_H), ([0xCB, 0xDD], .set_3_L), ([0xCB, 0xDE], .set_3_indHL), ([0xCB, 0xDF], .set_3_A)] := by decide

theorem test_decode_extended_row_E : allDecode
    [([0xCB, 0xE0], .set_4_B), ([0xCB, 0xE1], .set_4_C), ([0xCB, 0xE2], .set_4_D), ([0xCB, 0xE3], .set_4_E),
     ([0xCB, 0xE4], .set_4_H), ([0xCB, 0xE5], .set_4_L), ([0xCB, 0xE6], .set_4_indHL), ([0xCB, 0xE7], .set_4_A),
     ([0xCB, 0xE8], .set_5_B), ([0xCB, 0xE9], .set_5_C), ([0xCB, 0xEA], .set_5_D), ([0xCB, 0xEB], .set_5_E),
     ([0xCB, 0xEC], .set_5_H), ([0xCB, 0xED], .set_5_L), ([0xCB, 0xEE], .set_5_indHL), ([0xCB, 0xEF], .set_5_A)] := by decide

theorem test_decode_extended_row_F : allDecode
    [([0xCB, 0xF0], .set_6_B), ([0xCB, 0xF1], .set_6_C), ([0xCB, 0xF2], .set_6_D), ([0xCB, 0xF3], .set_6_E),
     ([0xCB, 0xF4], .set_6_H), ([0xCB, 0xF5], .set_6_L), ([0xCB, 0xF6], .set_6_indHL), ([0xCB, 0xF7], .set_6_A),
     ([0xCB, 0xF8], .set_7_B), ([0xCB, 0xF9], .set_7_C), ([0xCB, 0xFA], .set_7_D), ([0xCB, 0xFB], .set_7_E),
     ([0xCB, 0xFC], .set_7_H), ([0xCB, 0xFD], .set_7_L), ([0xCB, 0xFE], .set_7_indHL), ([0xCB, 0xFF], .set_7_A)] := by decide

/-! ## One step, against the step vectors of 95_test_vectors.md: registers named there, bytes written, cost, outputs -/

/-- TV1: LD B,C (R130). -/
theorem test_tv1_ld_b_c : check { base with c := 0x5A } [0x41]
    (fun t => (t.a, t.f, t.b, t.c, t.pc, t.result.cost) == (0x01, 0xB0, 0x5A, 0x5A, 0xC001, 4)) := by decide

/-- TV3: LD H,(HL) (address read before H written) (R131). -/
theorem test_tv3_ld_h_hl_address_read_before_h_written : check (poke { base with h := 0xC1, l := 0x00 } 0xC100 0x77) [0x66]
    (fun t => (t.a, t.f, t.h, t.l, t.pc, t.result.cost) == (0x01, 0xB0, 0x77, 0x00, 0xC001, 8)) := by decide

/-- TV4: LD (HL),L (R132). -/
theorem test_tv4_ld_hl_l : check { base with h := 0xC1, l := 0x23 } [0x75]
    (fun t => (t.a, t.f, t.h, t.l, t.pc, t.readByte 0xC123, t.result.cost) == (0x01, 0xB0, 0xC1, 0x23, 0xC001, 0x23, 8)) := by decide

/-- TV5: LD E,n (R133). -/
theorem test_tv5_ld_e_n : check base [0x1E, 0x9C]
    (fun t => (t.a, t.f, t.e, t.pc, t.result.cost) == (0x01, 0xB0, 0x9C, 0xC002, 8)) := by decide

/-- TV6: LD (HL),n (R134). -/
theorem test_tv6_ld_hl_n : check { base with h := 0xC2, l := 0x00 } [0x36, 0xA5]
    (fun t => (t.a, t.f, t.h, t.l, t.pc, t.readByte 0xC200, t.result.cost) == (0x01, 0xB0, 0xC2, 0x00, 0xC002, 0xA5, 12)) := by decide

/-- TV7: LD A,(DE) (R135). -/
theorem test_tv7_ld_a_de : check (poke { base with d := 0xC3, e := 0x00 } 0xC300 0x44) [0x1A]
    (fun t => (t.a, t.f, t.d, t.e, t.pc, t.result.cost) == (0x44, 0xB0, 0xC3, 0x00, 0xC001, 8)) := by decide

/-- TV8: LD (BC),A (R136). -/
theorem test_tv8_ld_bc_a : check { base with a := 0x99, b := 0xC3, c := 0x01 } [0x02]
    (fun t => (t.a, t.f, t.b, t.c, t.pc, t.readByte 0xC301, t.result.cost) == (0x99, 0xB0, 0xC3, 0x01, 0xC001, 0x99, 8)) := by decide

/-- TV9: LD A,(nn) (R137). -/
theorem test_tv9_ld_a_nn : check (poke base 0xC410 0x3F) [0xFA, 0x10, 0xC4]
    (fun t => (t.a, t.f, t.pc, t.result.cost) == (0x3F, 0xB0, 0xC003, 16)) := by decide

/-- TV10: LD (nn),A (R138). -/
theorem test_tv10_ld_nn_a : check { base with a := 0x12 } [0xEA, 0xFF, 0xFF]
    (fun t => (t.a, t.f, t.pc, t.readByte 0xFFFF, t.result.cost) == (0x12, 0xB0, 0xC003, 0x12, 16)) := by decide

/-- TV11: LDH A,(n) (R139). -/
theorem test_tv11_ldh_a_n : check (poke base 0xFF44 0x90) [0xF0, 0x44]
    (fun t => (t.a, t.f, t.pc, t.result.cost) == (0x90, 0xB0, 0xC002, 12)) := by decide

/-- TV12: LDH (n),A (R140). -/
theorem test_tv12_ldh_n_a : check { base with a := 0x1F } [0xE0, 0xFF]
    (fun t => (t.a, t.f, t.pc, t.readByte 0xFFFF, t.result.cost) == (0x1F, 0xB0, 0xC002, 0x1F, 12)) := by decide

/-- TV13: LD A,(C) (R141). -/
theorem test_tv13_ld_a_c : check (poke { base with c := 0x00 } 0xFF00 0xCF) [0xF2]
    (fun t => (t.a, t.f, t.c, t.pc, t.result.cost) == (0xCF, 0xB0, 0x00, 0xC001, 8)) := by decide

/-- TV14: LD (C),A (R142). -/
theorem test_tv14_ld_c_a : check { base with a := 0x80, c := 0x26 } [0xE2]
    (fun t => (t.a, t.f, t.c, t.pc, t.readByte 0xFF26, t.result.cost) == (0x80, 0xB0, 0x26, 0xC001, 0x80, 8)) := by decide

/-- TV15: LD A,(HL+) at HL=FFFF (wrap) (R143). -/
theorem test_tv15_ld_a_hl_at_hl_ffff_wrap : check (poke { base with a := 0x00, h := 0xFF, l := 0xFF } 0xFFFF 0x01) [0x2A]
    (fun t => (t.a, t.f, t.h, t.l, t.pc, t.result.cost) == (0x01, 0xB0, 0x00, 0x00, 0xC001, 8)) := by decide

/-- TV16: LD A,(HL-) at HL=0000 (wrap) (R144). -/
theorem test_tv16_ld_a_hl_at_hl_0000_wrap : check (poke { base with h := 0x00, l := 0x00 } 0x0000 0x02) [0x3A]
    (fun t => (t.a, t.f, t.h, t.l, t.pc, t.result.cost) == (0x02, 0xB0, 0xFF, 0xFF, 0xC001, 8)) := by decide

/-- TV17: LD (HL+),A (R145). -/
theorem test_tv17_ld_hl_a : check { base with a := 0x55, h := 0xC5, l := 0xFF } [0x22]
    (fun t => (t.a, t.f, t.h, t.l, t.pc, t.readByte 0xC5FF, t.result.cost) == (0x55, 0xB0, 0xC6, 0x00, 0xC001, 0x55, 8)) := by decide

/-- TV18: LD (HL-),A (R146). -/
theorem test_tv18_ld_hl_a : check { base with a := 0x66, h := 0xC6, l := 0x00 } [0x32]
    (fun t => (t.a, t.f, t.h, t.l, t.pc, t.readByte 0xC600, t.result.cost) == (0x66, 0xB0, 0xC5, 0xFF, 0xC001, 0x66, 8)) := by decide

/-- TV19: LD SP,nn (R147). -/
theorem test_tv19_ld_sp_nn : check base [0x31, 0xFE, 0xFF]
    (fun t => (t.a, t.f, t.sp, t.pc, t.result.cost) == (0x01, 0xB0, 0xFFFE, 0xC003, 12)) := by decide

/-- TV21: LD (nn),SP at nn=FFFF (wrap) (R148). -/
theorem test_tv21_ld_nn_sp_at_nn_ffff_wrap : check { base with sp := 0xABCD } [0x08, 0xFF, 0xFF]
    (fun t => (t.a, t.f, t.sp, t.pc, t.readByte 0xFFFF, t.readByte 0x0000, t.result.cost) == (0x01, 0xB0, 0xABCD, 0xC003, 0xCD, 0xAB, 20)) := by decide

/-- TV22: LD SP,HL (R149). -/
theorem test_tv22_ld_sp_hl : check { base with h := 0xD0, l := 0x00 } [0xF9]
    (fun t => (t.a, t.f, t.h, t.l, t.sp, t.pc, t.result.cost) == (0x01, 0xB0, 0xD0, 0x00, 0xD000, 0xC001, 8)) := by decide

/-- TV23: ADD A,B carry and half (R172). -/
theorem test_tv23_add_a_b_carry_and_half : check { base with a := 0x3A, b := 0xC6, f := 0x00 } [0x80]
    (fun t => (t.a, t.f, t.b, t.pc, t.result.cost) == (0x00, 0xB0, 0xC6, 0xC001, 4)) := by decide

/-- TV28: ADC A,n FF+00+1 (R173). -/
theorem test_tv28_adc_a_n_ff_00_1 : check { base with a := 0xFF, f := 0x10 } [0xCE, 0x00]
    (fun t => (t.a, t.f, t.pc, t.result.cost) == (0x00, 0xB0, 0xC002, 8)) := by decide

/-- TV29: ADC A,A carry clear (R173). -/
theorem test_tv29_adc_a_a_carry_clear : check { base with a := 0x88, f := 0x00 } [0x8F]
    (fun t => (t.a, t.f, t.pc, t.result.cost) == (0x10, 0x30, 0xC001, 4)) := by decide

/-- TV31: SUB n borrow (R174). -/
theorem test_tv31_sub_n_borrow : check { base with a := 0x00, f := 0x00 } [0xD6, 0x01]
    (fun t => (t.a, t.f, t.pc, t.result.cost) == (0xFF, 0x70, 0xC002, 8)) := by decide

/-- TV33: SBC A,H with carry (R175). -/
theorem test_tv33_sbc_a_h_with_carry : check { base with a := 0x3B, h := 0x2A, f := 0x10 } [0x9C]
    (fun t => (t.a, t.f, t.h, t.pc, t.result.cost) == (0x10, 0x40, 0x2A, 0xC001, 4)) := by decide

/-- TV34: SBC A,A with carry (R175). -/
theorem test_tv34_sbc_a_a_with_carry : check { base with a := 0x42, f := 0x10 } [0x9F]
    (fun t => (t.a, t.f, t.pc, t.result.cost) == (0xFF, 0x70, 0xC001, 4)) := by decide

/-- TV35: SBC A,n FF with carry (R175). -/
theorem test_tv35_sbc_a_n_ff_with_carry : check { base with a := 0x10, f := 0x10 } [0xDE, 0xFF]
    (fun t => (t.a, t.f, t.pc, t.result.cost) == (0x10, 0x70, 0xC002, 8)) := by decide

/-- TV36: AND L (R176). -/
theorem test_tv36_and_l : check { base with a := 0x5A, l := 0x3F, f := 0x50 } [0xA5]
    (fun t => (t.a, t.f, t.l, t.pc, t.result.cost) == (0x1A, 0x20, 0x3F, 0xC001, 4)) := by decide

/-- TV38: XOR A (R177). -/
theorem test_tv38_xor_a : check { base with a := 0x77, f := 0x70 } [0xAF]
    (fun t => (t.a, t.f, t.pc, t.result.cost) == (0x00, 0x80, 0xC001, 4)) := by decide

/-- TV41: OR n (R178). -/
theorem test_tv41_or_n : check { base with a := 0x10, f := 0x00 } [0xF6, 0x81]
    (fun t => (t.a, t.f, t.pc, t.result.cost) == (0x91, 0x00, 0xC002, 8)) := by decide

/-- TV42: CP B (R179). -/
theorem test_tv42_cp_b : check { base with a := 0x3C, b := 0x2F, f := 0x00 } [0xB8]
    (fun t => (t.a, t.f, t.b, t.pc, t.result.cost) == (0x3C, 0x60, 0x2F, 0xC001, 4)) := by decide

/-- TV43: CP n greater (R179). -/
theorem test_tv43_cp_n_greater : check { base with a := 0x3C, f := 0x00 } [0xFE, 0x40]
    (fun t => (t.a, t.f, t.pc, t.result.cost) == (0x3C, 0x50, 0xC002, 8)) := by decide

/-- TV45: INC A wrap (R180). -/
theorem test_tv45_inc_a_wrap : check { base with a := 0xFF, f := 0x50 } [0x3C]
    (fun t => (t.a, t.f, t.pc, t.result.cost) == (0x00, 0xB0, 0xC001, 4)) := by decide

/-- TV48: INC (HL) wrap (R181). -/
theorem test_tv48_inc_hl_wrap : check (poke { base with h := 0xC9, l := 0x00, f := 0x00 } 0xC900 0xFF) [0x34]
    (fun t => (t.a, t.f, t.h, t.l, t.pc, t.readByte 0xC900, t.result.cost) == (0x01, 0xA0, 0xC9, 0x00, 0xC001, 0x00, 12)) := by decide

/-- TV49: DEC B to zero (R182). -/
theorem test_tv49_dec_b_to_zero : check { base with b := 0x01, f := 0x10 } [0x05]
    (fun t => (t.a, t.f, t.b, t.pc, t.result.cost) == (0x01, 0xD0, 0x00, 0xC001, 4)) := by decide

/-- TV52: DEC (HL) (R183). -/
theorem test_tv52_dec_hl : check (poke { base with h := 0xCA, l := 0x00, f := 0x00 } 0xCA00 0x00) [0x35]
    (fun t => (t.a, t.f, t.h, t.l, t.pc, t.readByte 0xCA00, t.result.cost) == (0x01, 0x60, 0xCA, 0x00, 0xC001, 0xFF, 12)) := by decide

/-- TV57: DAA A=0x9A N=0 (R184). -/
theorem test_tv57_daa_a_0x9a_n_0 : check { base with a := 0x9A, f := 0x00 } [0x27]
    (fun t => (t.a, t.f, t.pc, t.result.cost) == (0x00, 0x90, 0xC001, 4)) := by decide

/-- TV62: CPL keeps Z,C (R185). -/
theorem test_tv62_cpl_keeps_z_c : check { base with a := 0xFF, f := 0x90 } [0x2F]
    (fun t => (t.a, t.f, t.pc, t.result.cost) == (0x00, 0xF0, 0xC001, 4)) := by decide

/-- TV63: SCF (R186). -/
theorem test_tv63_scf : check { base with f := 0xE0 } [0x37]
    (fun t => (t.a, t.f, t.pc, t.result.cost) == (0x01, 0x90, 0xC001, 4)) := by decide

/-- TV64: CCF C=1 (R187). -/
theorem test_tv64_ccf_c_1 : check { base with f := 0x70 } [0x3F]
    (fun t => (t.a, t.f, t.pc, t.result.cost) == (0x01, 0x00, 0xC001, 4)) := by decide

/-- TV66: ADD HL,BC (R201). -/
theorem test_tv66_add_hl_bc : check { base with h := 0x8A, l := 0x23, b := 0x06, c := 0x05, f := 0xC0 } [0x09]
    (fun t => (t.a, t.f, t.b, t.c, t.h, t.l, t.pc, t.result.cost) == (0x01, 0xA0, 0x06, 0x05, 0x90, 0x28, 0xC001, 8)) := by decide

/-- TV68: ADD HL,SP wrap to 0 (R201). -/
theorem test_tv68_add_hl_sp_wrap_to_0 : check { base with h := 0x00, l := 0x01, sp := 0xFFFF, f := 0x00 } [0x39]
    (fun t => (t.a, t.f, t.h, t.l, t.sp, t.pc, t.result.cost) == (0x01, 0x30, 0x00, 0x00, 0xFFFF, 0xC001, 8)) := by decide

/-- TV71: ADD SP,e -1 from 0001 (R202). -/
theorem test_tv71_add_sp_e_1_from_0001 : check { base with sp := 0x0001, f := 0x00 } [0xE8, 0xFF]
    (fun t => (t.a, t.f, t.sp, t.pc, t.result.cost) == (0x01, 0x30, 0x0000, 0xC002, 16)) := by decide

/-- TV74: LD HL,SP+e +2 (R203). -/
theorem test_tv74_ld_hl_sp_e_2 : check { base with sp := 0xFFF8, f := 0xC0 } [0xF8, 0x02]
    (fun t => (t.a, t.f, t.h, t.l, t.sp, t.pc, t.result.cost) == (0x01, 0x00, 0xFF, 0xFA, 0xFFF8, 0xC002, 12)) := by decide

/-- TV75: LD HL,SP+e -128 (R203). -/
theorem test_tv75_ld_hl_sp_e_128 : check { base with sp := 0xD000, f := 0x00 } [0xF8, 0x80]
    (fun t => (t.a, t.f, t.h, t.l, t.sp, t.pc, t.result.cost) == (0x01, 0x00, 0xCF, 0x80, 0xD000, 0xC002, 12)) := by decide

/-- TV77: INC BC wrap, flags kept (R204). -/
theorem test_tv77_inc_bc_wrap_flags_kept : check { base with b := 0xFF, c := 0xFF, f := 0x00 } [0x03]
    (fun t => (t.a, t.f, t.b, t.c, t.pc, t.result.cost) == (0x01, 0x00, 0x00, 0x00, 0xC001, 8)) := by decide

/-- TV79: DEC HL wrap (R205). -/
theorem test_tv79_dec_hl_wrap : check { base with h := 0x00, l := 0x00, f := 0x00 } [0x2B]
    (fun t => (t.a, t.f, t.h, t.l, t.pc, t.result.cost) == (0x01, 0x00, 0xFF, 0xFF, 0xC001, 8)) := by decide

/-- TV82: RLCA A=0 (Z stays 0) (R220). -/
theorem test_tv82_rlca_a_0_z_stays_0 : check { base with a := 0x00, f := 0xF0 } [0x07]
    (fun t => (t.a, t.f, t.pc, t.result.cost) == (0x00, 0x00, 0xC001, 4)) := by decide

/-- TV83: RRCA (R221). -/
theorem test_tv83_rrca : check { base with a := 0x3B, f := 0x00 } [0x0F]
    (fun t => (t.a, t.f, t.pc, t.result.cost) == (0x9D, 0x10, 0xC001, 4)) := by decide

/-- TV84: RLA (R222). -/
theorem test_tv84_rla : check { base with a := 0x95, f := 0x10 } [0x17]
    (fun t => (t.a, t.f, t.pc, t.result.cost) == (0x2B, 0x10, 0xC001, 4)) := by decide

/-- TV86: RRA (R223). -/
theorem test_tv86_rra : check { base with a := 0x81, f := 0x00 } [0x1F]
    (fun t => (t.a, t.f, t.pc, t.result.cost) == (0x40, 0x10, 0xC001, 4)) := by decide

/-- TV87: RLC B (R225). -/
theorem test_tv87_rlc_b : check { base with b := 0x85, f := 0x00 } [0xCB, 0x00]
    (fun t => (t.a, t.f, t.b, t.pc, t.result.cost) == (0x01, 0x10, 0x0B, 0xC002, 8)) := by decide

/-- TV89: RRC C (R226). -/
theorem test_tv89_rrc_c : check { base with c := 0x01, f := 0x00 } [0xCB, 0x09]
    (fun t => (t.a, t.f, t.c, t.pc, t.result.cost) == (0x01, 0x10, 0x80, 0xC002, 8)) := by decide

/-- TV91: RL (HL) with carry (R227). -/
theorem test_tv91_rl_hl_with_carry : check (poke { base with h := 0xCC, l := 0x00, f := 0x10 } 0xCC00 0x11) [0xCB, 0x16]
    (fun t => (t.a, t.f, t.h, t.l, t.pc, t.readByte 0xCC00, t.result.cost) == (0x01, 0x00, 0xCC, 0x00, 0xC002, 0x23, 16)) := by decide

/-- TV93: RR D with carry (R228). -/
theorem test_tv93_rr_d_with_carry : check { base with d := 0x8A, f := 0x10 } [0xCB, 0x1A]
    (fun t => (t.a, t.f, t.d, t.pc, t.result.cost) == (0x01, 0x00, 0xC5, 0xC002, 8)) := by decide

/-- TV95: SLA E (R229). -/
theorem test_tv95_sla_e : check { base with e := 0x41, f := 0x10 } [0xCB, 0x23]
    (fun t => (t.a, t.f, t.e, t.pc, t.result.cost) == (0x01, 0x00, 0x82, 0xC002, 8)) := by decide

/-- TV96: SRA A (R230). -/
theorem test_tv96_sra_a : check { base with a := 0x8A, f := 0x00 } [0xCB, 0x2F]
    (fun t => (t.a, t.f, t.pc, t.result.cost) == (0xC5, 0x00, 0xC002, 8)) := by decide

/-- TV99: SWAP (HL) zero (R231). -/
theorem test_tv99_swap_hl_zero : check (poke { base with h := 0xCD, l := 0x00, f := 0x00 } 0xCD00 0x00) [0xCB, 0x36]
    (fun t => (t.a, t.f, t.h, t.l, t.pc, t.readByte 0xCD00, t.result.cost) == (0x01, 0x80, 0xCD, 0x00, 0xC002, 0x00, 16)) := by decide

/-- TV101: SRL H (R232). -/
theorem test_tv101_srl_h : check { base with h := 0xFF, f := 0x00 } [0xCB, 0x3C]
    (fun t => (t.a, t.f, t.h, t.pc, t.result.cost) == (0x01, 0x10, 0x7F, 0xC002, 8)) := by decide

/-- TV103: BIT 7,H zero (R250). -/
theorem test_tv103_bit_7_h_zero : check { base with h := 0x7F, f := 0x00 } [0xCB, 0x7C]
    (fun t => (t.a, t.f, t.h, t.pc, t.result.cost) == (0x01, 0xA0, 0x7F, 0xC002, 8)) := by decide

/-- TV104: BIT 0,(HL) (R250). -/
theorem test_tv104_bit_0_hl : check (poke { base with h := 0xCE, l := 0x00, f := 0x10 } 0xCE00 0xFE) [0xCB, 0x46]
    (fun t => (t.a, t.f, t.h, t.l, t.pc, t.result.cost) == (0x01, 0xB0, 0xCE, 0x00, 0xC002, 12)) := by decide

/-- TV106: RES 7,(HL) (R251). -/
theorem test_tv106_res_7_hl : check (poke { base with h := 0xCF, l := 0x00 } 0xCF00 0x80) [0xCB, 0xBE]
    (fun t => (t.a, t.f, t.h, t.l, t.pc, t.readByte 0xCF00, t.result.cost) == (0x01, 0xB0, 0xCF, 0x00, 0xC002, 0x00, 16)) := by decide

/-- TV107: SET 3,(HL) (R252). -/
theorem test_tv107_set_3_hl : check (poke { base with h := 0xCF, l := 0x01 } 0xCF01 0x00) [0xCB, 0xDE]
    (fun t => (t.a, t.f, t.h, t.l, t.pc, t.readByte 0xCF01, t.result.cost) == (0x01, 0xB0, 0xCF, 0x01, 0xC002, 0x08, 16)) := by decide

/-- TV109: JP nn (R261). -/
theorem test_tv109_jp_nn : check base [0xC3, 0x50, 0x01]
    (fun t => (t.a, t.f, t.pc, t.result.cost) == (0x01, 0xB0, 0x0150, 16)) := by decide

/-- TV110: JP Z,nn taken (R262). -/
theorem test_tv110_jp_z_nn_taken : check { base with f := 0x80 } [0xCA, 0x00, 0x20]
    (fun t => (t.a, t.f, t.pc, t.result.cost) == (0x01, 0x80, 0x2000, 16)) := by decide

/-- TV111: JP Z,nn not taken (R262). -/
theorem test_tv111_jp_z_nn_not_taken : check { base with f := 0x00 } [0xCA, 0x00, 0x20]
    (fun t => (t.a, t.f, t.pc, t.result.cost) == (0x01, 0x00, 0xC003, 12)) := by decide

/-- TV113: JP HL (R263). -/
theorem test_tv113_jp_hl : check { base with h := 0x40, l := 0x00 } [0xE9]
    (fun t => (t.a, t.f, t.h, t.l, t.pc, t.result.cost) == (0x01, 0xB0, 0x40, 0x00, 0x4000, 4)) := by decide

/-- TV115: JR -5 (R264). -/
theorem test_tv115_jr_5 : check base [0x18, 0xFB]
    (fun t => (t.a, t.f, t.pc, t.result.cost) == (0x01, 0xB0, 0xBFFD, 12)) := by decide

/-- TV117: JR +0x7F at FFF0 (wrap) (R264). -/
theorem test_tv117_jr_0x7f_at_fff0_wrap : check { base with pc := 0xFFF0 } [0x18, 0x7F]
    (fun t => (t.a, t.f, t.pc, t.result.cost) == (0x01, 0xB0, 0x0071, 12)) := by decide

/-- TV119: JR NZ not taken (R265). -/
theorem test_tv119_jr_nz_not_taken : check { base with f := 0x80 } [0x20, 0x10]
    (fun t => (t.a, t.f, t.pc, t.result.cost) == (0x01, 0x80, 0xC002, 8)) := by decide

/-- TV120: JR C taken (R265). -/
theorem test_tv120_jr_c_taken : check { base with f := 0x10 } [0x38, 0x80]
    (fun t => (t.a, t.f, t.pc, t.result.cost) == (0x01, 0x10, 0xBF82, 12)) := by decide

/-- TV122: CALL nn at SP=0001 (wrap) (R266). -/
theorem test_tv122_call_nn_at_sp_0001_wrap : check { base with pc := 0x0150, sp := 0x0001 } [0xCD, 0x00, 0x30]
    (fun t => (t.a, t.f, t.sp, t.pc, t.readByte 0x0000, t.readByte 0xFFFF, t.result.cost) == (0x01, 0xB0, 0xFFFF, 0x3000, 0x01, 0x53, 24)) := by decide

/-- TV123: CALL C,nn taken (R267). -/
theorem test_tv123_call_c_nn_taken : check { base with pc := 0x0150, sp := 0xD000, f := 0x10 } [0xDC, 0x00, 0x40]
    (fun t => (t.a, t.f, t.sp, t.pc, t.readByte 0xCFFF, t.readByte 0xCFFE, t.result.cost) == (0x01, 0x10, 0xCFFE, 0x4000, 0x01, 0x53, 24)) := by decide

/-- TV124: CALL NZ,nn not taken (R267). -/
theorem test_tv124_call_nz_nn_not_taken : check { base with pc := 0x0150, sp := 0xD000, f := 0x80 } [0xC4, 0x00, 0x40]
    (fun t => (t.a, t.f, t.sp, t.pc, t.result.cost) == (0x01, 0x80, 0xD000, 0x0153, 12)) := by decide

/-- TV126: RET at SP=FFFF (wrap) (R268). -/
theorem test_tv126_ret_at_sp_ffff_wrap : check (poke (poke { base with sp := 0xFFFF } 0x0000 0x12) 0xFFFF 0x34) [0xC9]
    (fun t => (t.a, t.f, t.sp, t.pc, t.result.cost) == (0x01, 0xB0, 0x0001, 0x1234, 16)) := by decide

/-- TV127: RET NZ taken (R269). -/
theorem test_tv127_ret_nz_taken : check (poke (poke { base with sp := 0xFFFC, f := 0x00 } 0xFFFC 0x53) 0xFFFD 0x01) [0xC0]
    (fun t => (t.a, t.f, t.sp, t.pc, t.result.cost) == (0x01, 0x00, 0xFFFE, 0x0153, 20)) := by decide

/-- TV128: RET Z not taken (R269). -/
theorem test_tv128_ret_z_not_taken : check (poke (poke { base with sp := 0xFFFC, f := 0x00 } 0xFFFC 0x53) 0xFFFD 0x01) [0xC8]
    (fun t => (t.a, t.f, t.sp, t.pc, t.result.cost) == (0x01, 0x00, 0xFFFC, 0xC001, 8)) := by decide

/-- TV129: RETI (R270). -/
theorem test_tv129_reti : check (poke (poke { base with sp := 0xFFFC } 0xFFFC 0x53) 0xFFFD 0x01) [0xD9]
    (fun t => (t.a, t.f, t.sp, t.pc, t.result.cost, t.result.ime) == (0x01, 0xB0, 0xFFFE, 0x0153, 16, some .on)) := by decide

/-- TV130: RST 0x28 (R271). -/
theorem test_tv130_rst_0x28 : check { base with pc := 0x0200, sp := 0xFFFE } [0xEF]
    (fun t => (t.a, t.f, t.sp, t.pc, t.readByte 0xFFFD, t.readByte 0xFFFC, t.result.cost) == (0x01, 0xB0, 0xFFFC, 0x0028, 0x02, 0x01, 16)) := by decide

/-- TV131: RST 0x38 (R271). -/
theorem test_tv131_rst_0x38 : check { base with pc := 0x0038, sp := 0xFFFE } [0xFF]
    (fun t => (t.a, t.f, t.sp, t.pc, t.readByte 0xFFFD, t.readByte 0xFFFC, t.result.cost) == (0x01, 0xB0, 0xFFFC, 0x0038, 0x00, 0x39, 16)) := by decide

/-- TV134: PUSH DE at SP=0000 (wrap) (R292). -/
theorem test_tv134_push_de_at_sp_0000_wrap : check { base with d := 0xAB, e := 0xCD, sp := 0x0000 } [0xD5]
    (fun t => (t.a, t.f, t.d, t.e, t.sp, t.pc, t.readByte 0xFFFF, t.readByte 0xFFFE, t.result.cost) == (0x01, 0xB0, 0xAB, 0xCD, 0xFFFE, 0xC001, 0xAB, 0xCD, 16)) := by decide

/-- TV135: POP HL (R293). -/
theorem test_tv135_pop_hl : check (poke (poke { base with sp := 0xFFFC } 0xFFFC 0x78) 0xFFFD 0x56) [0xE1]
    (fun t => (t.a, t.f, t.h, t.l, t.sp, t.pc, t.result.cost) == (0x01, 0xB0, 0x56, 0x78, 0xFFFE, 0xC001, 12)) := by decide

/-- TV136: POP AF low nibble masked (R294). -/
theorem test_tv136_pop_af_low_nibble_masked : check (poke (poke { base with sp := 0xFFFC } 0xFFFC 0xFF) 0xFFFD 0x12) [0xF1]
    (fun t => (t.a, t.f, t.sp, t.pc, t.result.cost) == (0x12, 0xF0, 0xFFFE, 0xC001, 12)) := by decide

/-- TV139: NOP (R300). -/
theorem test_tv139_nop : check base [0x00]
    (fun t => (t.a, t.f, t.pc, t.result.cost) == (0x01, 0xB0, 0xC001, 4)) := by decide

/-- TV141: STOP (second byte ignored) (R302). -/
theorem test_tv141_stop_second_byte_ignored : check base [0x10, 0xCB]
    (fun t => (t.a, t.f, t.pc, t.result.cost) == (0x01, 0xB0, 0xC002, 4)) := by decide

/-- TV142: DI (R303). -/
theorem test_tv142_di : check base [0xF3]
    (fun t => (t.a, t.f, t.pc, t.result.cost, t.result.ime) == (0x01, 0xB0, 0xC001, 4, some .off)) := by decide

/-- TV143: EI (R304). -/
theorem test_tv143_ei : check base [0xFB]
    (fun t => (t.a, t.f, t.pc, t.result.cost, t.result.ime) == (0x01, 0xB0, 0xC001, 4, some .on)) := by decide

/-- TV144: halted step does nothing (R110). -/
theorem test_tv144_halted_step_does_nothing : check { base with halted := true } [0x3C]
    (fun t => (t.a, t.f, t.pc, t.result.cost, t.halted) == (0x01, 0xB0, 0xC000, 4, true)) := by decide

/-- TV145: illegal 0xD3 (R102, R321). -/
theorem test_tv145_illegal_0xd3 : check base [0xD3]
    (fun t => (t.a, t.f, t.pc, t.result.cost, t.fault) == (0x01, 0xB0, 0xC001, -1, some (.illegalOpcode 0xD3))) := by decide

/-! ## More single steps, by hand from the rules -/

/-- R184 with N set: 0x10 - 0x01 left A = 0x0F and F = 0x60; DAA takes 6 away (TV58's second step). -/
theorem test_daa_after_subtraction : check { base with a := 0x0F, f := 0x60 } [0x27]
    (fun t => (t.a, t.f, t.pc) == (0x09, 0x40, 0xC001)) := by decide

/-- An immediate fetched across 0xFFFF (R36, R64). -/
theorem test_fetch_wraps : check { base with pc := 0xFFFF } [0x01, 0x34, 0x12]
    (fun t => (t.b, t.c, t.pc) == (0x12, 0x34, 0x0002)) := by decide

/-- R301: HALT itself (the first step of TV140). -/
theorem test_halt : check base [0x76]
    (fun t => (t.halted, t.pc, t.result.cost, t.cycleCount) == (true, 0xC001, 4, 4)) := by decide

/-- R336: with a latched fault the next step reports -1 and changes nothing (the second step of TV146). -/
theorem test_latched_fault : check { base with pc := 0xC001, fault := some (.illegalOpcode 0xFD) } [0x00]
    (fun t => (t.pc, t.result.cost, t.fault, t.cycleCount) == (0xC001, -1, some (.illegalOpcode 0xFD), 0)) := by decide

/-- R336 with ILLEGAL_CONTINUES: the next instruction runs and the fault keeps its value (the second step of TV157). -/
theorem test_latched_fault_continues :
    check { base with pc := 0xC001, fault := some (.illegalOpcode 0xFD), params := { illegalContinues := true } } [0x3C]
      (fun t => (t.a, t.f, t.pc, t.result.cost, t.fault) == (0x02, 0x10, 0xC002, 4, some (.illegalOpcode 0xFD))) := by
  decide

/-- R40: the counter wraps at its width (TV154). -/
theorem test_cycle_count_wraps : check { base with cycleCount := 2 ^ 64 - 2 } [0x00]
    (fun t => (t.cycleCount, t.result.cost) == (2, 4)) := by decide

/-- R326: the entry of TV153 from the halted state. -/
theorem test_interrupt_entry :
    (interruptEntry .v48 { base with halted := true, pc := 0xC001, params := { interruptEntry := true } }).map
      (fun t => (t.halted, t.pc, t.sp, t.readByte 0xDFEF, t.readByte 0xDFEE, t.result.cost)) =
    some (false, 0x0048, 0xDFEE, 0xC0, 0x01, 20) := by decide

/-- R45, R363: reset from a halted and faulted state (TV147, TV148). -/
theorem test_reset_from_any_state :
    let s := { base with halted := true, fault := some (.illegalOpcode 0xD3), cycleCount := 500 }
    (hostReset false s).snapshot.af = 0x01B0 ∧ (hostReset false s).fault = none ∧ (hostReset false s).halted = false ∧
    (hostReset true s).snapshot.hl = 0x0000 ∧ (hostReset true s).cycleCount = 0 := by decide

/-! ## Witnesses: for every statement that has premises, values that meet them all -/

/-- A state that runs `bytes` next. -/
def running (bytes : List Byte) : State := pokeAll base 0xC000 bytes

/-- StepRunsTheDecodedInstruction: no fault, and a fault with ILLEGAL_CONTINUES; both run LD BC,nn. -/
theorem witness_step_runs :
    (running [0x01, 0x34, 0x12]).fault = none ∧ (running [0x01, 0x34, 0x12]).halted = false ∧
    decode [(running [0x01, 0x34, 0x12]).readByte 0xC000, (running [0x01, 0x34, 0x12]).readByte 0xC001,
      (running [0x01, 0x34, 0x12]).readByte 0xC002] = .ok (.ld_BC_nn 0x1234, []) ∧
    (Instr.ld_BC_nn 0x1234).WellFormed := ⟨rfl, rfl, rfl, rfl⟩

/-- StepRunsTheDecodedInstruction: the premise's other half. -/
theorem witness_step_runs_with_a_fault :
    let s := { running [0x3C] with fault := some (.illegalOpcode 0xFD), params := { illegalContinues := true } }
    s.params.illegalContinues = true ∧ s.halted = false ∧
    decode [s.readByte s.pc, s.readByte (s.pc + 1), s.readByte (s.pc + 2)] = .ok (.inc_A, [0x00, 0x00]) ∧
    Instr.inc_A.WellFormed := ⟨rfl, rfl, rfl, rfl⟩

/-- HaltedStepIdles. -/
theorem witness_halted : ({ base with halted := true } : State).fault = none ∧
    ({ base with halted := true } : State).halted = true := ⟨rfl, rfl⟩

/-- LatchedFaultStopsTheCore: both settings. -/
theorem witness_latched_fault :
    let s := { base with fault := some (.illegalOpcode 0xD3) }
    let u := { s with params := { illegalContinues := true } }
    (s.fault = some (.illegalOpcode 0xD3) ∧ s.params.illegalContinues = false) ∧
    (u.fault = some (.illegalOpcode 0xD3) ∧ u.params.illegalContinues = true) := ⟨⟨rfl, rfl⟩, rfl, rfl⟩

/-- IllegalOpcodeOutcome: no fault, and a fault already latched. -/
theorem witness_illegal_opcode : base.fault = none ∧
    ({ base with fault := some (.illegalOpcode 0xD3) } : State).fault = some (.illegalOpcode 0xD3) := ⟨rfl, rfl⟩

/-- ExactlyElevenIllegalOpcodes, at the first and the last value and beside one. -/
theorem witness_illegal_rows : decodeBytes 0xD3 0x00 0xFF = .illegal .D3 ∧ decodeBytes 0xFD 0xFF 0x00 = .illegal .FD ∧
    decodeBytes 0xD2 0x00 0x00 = .jp_NC_nn 0x0000 := ⟨rfl, rfl, rfl⟩

/-- EveryStepAnswersANextState: a cost of -1 and a cost that is not, at 4 and at 24. -/
theorem witness_costs : check base [0xD3] (fun t => t.result.cost == -1) ∧
    check { base with fault := some (.illegalOpcode 0xD3) } [0x00] (fun t => t.result.cost == -1) ∧
    check base [0x00] (fun t => t.result.cost == 4) ∧ check base [0xCD, 0x00, 0x00] (fun t => t.result.cost == 24) := by
  decide

/-- CycleCountSumsTheReportedCosts: a step with a cost, a step with -1, an image, an interrupt entry. -/
theorem witness_cycle_count : (∃ t, step (running [0x00]) = .next t ∧ 0 ≤ t.result.cost) ∧
    (∃ t, step (running [0xD3]) = .next t ∧ t.result.cost = -1) ∧
    (∃ t, loadImage (List.replicate 32768 0x00) base = .ok t) ∧
    ∃ t, interruptEntry .v40 { base with params := { interruptEntry := true } } = some t :=
  ⟨⟨_, rfl, by decide⟩, ⟨_, rfl, by decide⟩, ⟨_, if_neg (by rw [List.length_replicate]; decide)⟩, ⟨_, rfl⟩⟩

/-- NoInstructionReadsCycleCountOrFault, OnlyEiDiRetiEmitImeRequests: an instruction of each kind answers. -/
theorem witness_exec : (∃ t, exec .add_A_B base = .next t) ∧ (∃ t, exec .ei base = .next t ∧ t.result.ime = some .on) ∧
    (∃ t, exec .reti base = .next t ∧ t.result.ime = some .on) ∧
    (∃ t, exec .di base = .next t ∧ t.result.ime = some .off) ∧ ∃ t, exec .nop base = .next t ∧ t.result.ime = none :=
  ⟨⟨_, rfl⟩, ⟨_, rfl, rfl⟩, ⟨_, rfl, rfl⟩, ⟨_, rfl, rfl⟩, ⟨_, rfl, rfl⟩⟩

/-- OnlyHaltStopsTheCore: a halted state that steps, a running one that halts and a running one that does not. -/
theorem witness_halts : (∃ t, step { base with halted := true } = .next t ∧ t.halted = true) ∧
    (∃ t, step (running [0x76]) = .next t ∧ t.halted = true) ∧ ∃ t, step (running [0x00]) = .next t ∧ t.halted = false :=
  ⟨⟨_, rfl, rfl⟩, ⟨_, rfl, rfl⟩, ⟨_, rfl, rfl⟩⟩

/-- OnlyIllegalOpcodesLatchAFault: a fault latched, a fault kept, none latched. -/
theorem witness_latches : (∃ t, step (running [0xDD]) = .next t ∧ t.fault = some (.illegalOpcode 0xDD)) ∧
    (∃ t, step { running [0xDD] with fault := some (.illegalOpcode 0xD3), params := { illegalContinues := true } } = .next t ∧
      t.fault = some (.illegalOpcode 0xD3)) ∧ ∃ t, step (running [0x00]) = .next t ∧ t.fault = none :=
  ⟨⟨_, rfl, rfl⟩, ⟨_, rfl, rfl⟩, ⟨_, rfl, rfl⟩⟩

/-- EveryStepKeepsTheInvariant and HostOperationsKeepTheInvariant: a state with memory in use that meets the invariant and
steps. -/
theorem witness_invariant : (running [0x70, 0x01]).Inv ∧ ∃ t, step (running [0x70, 0x01]) = .next t := ⟨by decide, ⟨_, rfl⟩⟩

/-- ResetMeetsTheInvariant, MemoryReadsBackWhatWasWritten: a memory in use in canonical form. -/
theorem witness_memory : (running [0x70, 0x01]).mem.wf ∧ (running [0x70, 0x01]).mem ≠ [] := by decide

/-- LoadImageFillsTheImageRegion: the lengths on both sides of the boundary, and the addresses on both sides. -/
theorem witness_image : (List.replicate 32767 (0xFF : Byte)).length < 32768 ∧
    32768 ≤ (List.replicate 32768 (0xFF : Byte)).length ∧ (0x7FFF : Word).toNat < 32768 ∧ 32768 ≤ (0x8000 : Word).toNat := by
  rw [List.length_replicate, List.length_replicate]; decide

/-- ClearHaltedAndInterruptEntry: the parameter off and on. -/
theorem witness_parameter : base.params.interruptEntry = false ∧
    ({ base with params := { interruptEntry := true } } : State).params.interruptEntry = true := ⟨rfl, rfl⟩

/-- PairsAreViewsOfTheCells, PushAndPopPairs, StackRoundTrips: pairs other than AF, and AF. -/
theorem witness_pairs : Pair.HL ≠ .AF ∧ Pair.AF = .AF := by decide

/-- DecodeOfEncodeIsTheInstruction: a well-formed instruction with an immediate at the ends of its range. -/
theorem witness_well_formed : (Instr.jp_nn 0xFFFF).WellFormed ∧ (Instr.jp_nn 0x0000).WellFormed := by decide

/-- BytesHaveOneMeaning: bytes that decode and leave a rest. -/
theorem witness_decodes : decode [0xCB, 0x37, 0x99] = .ok (.swap_A, [0x99]) := rfl

/-- BitwiseLogic: each of its three pairs. -/
theorem witness_logic : (AluOp.and, and) ∈ [(AluOp.and, and), (AluOp.xor, xor), (AluOp.or, or)] ∧
    (AluOp.xor, xor) ∈ [(AluOp.and, and), (AluOp.xor, xor), (AluOp.or, or)] ∧
    (AluOp.or, or) ∈ [(AluOp.and, and), (AluOp.xor, xor), (AluOp.or, or)] :=
  ⟨.head _, .tail _ (.head _), .tail _ (.tail _ (.head _))⟩

/-- LoadAccumulatorFromMemory: its first and its last row. -/
theorem witness_accumulator_loads :
    let rows : List (Instr × Word × Nat × Nat) := [(.ld_A_indBC, base.pair .BC, 1, 8), (.ld_A_indDE, base.pair .DE, 1, 8),
      (.ld_A_ind_nn 0xFFFF, 0xFFFF, 3, 16), (.ldh_A_ind_n 0x44, 0xFF00 + (0x44 : Byte).setWidth 16, 2, 12),
      (.ld_A_indC, 0xFF00 + base.c.setWidth 16, 1, 8)]
    (.ld_A_indBC, 0x0013, 1, 8) ∈ rows ∧ (.ldh_A_ind_n 0x44, 0xFF44, 2, 12) ∈ rows ∧ (.ld_A_indC, 0xFF13, 1, 8) ∈ rows := by
  decide

/-- StoreAccumulatorToMemory: its first and its last row. -/
theorem witness_accumulator_stores :
    let rows : List (Instr × Word × Nat × Nat) := [(.ld_indBC_A, base.pair .BC, 1, 8), (.ld_indDE_A, base.pair .DE, 1, 8),
      (.ld_ind_nn_A 0xFFFF, 0xFFFF, 3, 16), (.ldh_ind_n_A 0xFF, 0xFF00 + (0xFF : Byte).setWidth 16, 2, 12),
      (.ld_indC_A, 0xFF00 + base.c.setWidth 16, 1, 8)]
    (.ld_indBC_A, 0x0013, 1, 8) ∈ rows ∧ (.ldh_ind_n_A 0xFF, 0xFFFF, 2, 12) ∈ rows ∧ (.ld_indC_A, 0xFF13, 1, 8) ∈ rows := by
  decide

/-- LoadAndStoreMovingHL: both rows of both lists. -/
theorem witness_moving_rows :
    let loads : List (Instr × Int) := [(.ld_A_indHLI, 1), (.ld_A_indHLD, -1)]
    let stores : List (Instr × Int) := [(.ld_indHLI_A, 1), (.ld_indHLD_A, -1)]
    (.ld_A_indHLI, 1) ∈ loads ∧ (.ld_A_indHLD, -1) ∈ loads ∧ (.ld_indHLI_A, 1) ∈ stores ∧ (.ld_indHLD_A, -1) ∈ stores := by
  decide

/-- MiscellaneousInstructions: rows with and without a request, and the row that halts. -/
theorem witness_miscellaneous_rows :
    let rows : List (Instr × Nat × Option ImeRequest × Bool) := [(.nop, 1, none, false), (.halt, 1, none, true),
      (.stop 0xCB, 2, none, false), (.di, 1, some .off, false), (.ei, 1, some .on, false)]
    (.nop, 1, none, false) ∈ rows ∧ (.halt, 1, none, true) ∈ rows ∧ (.stop 0xCB, 2, none, false) ∈ rows ∧
    (.di, 1, some .off, false) ∈ rows ∧ (.ei, 1, some .on, false) ∈ rows := by decide

/-- DecimalAdjustKeepsArithmeticDecimal: decimal operands at both ends, an addition and a subtraction, then DAA. -/
theorem witness_decimal :
    let s := { base with a := 0x99, f := 0x10 }
    s.a.toNat / 16 ≤ 9 ∧ s.a.toNat % 16 ≤ 9 ∧ (s.aluSource (.imm 0x99)).toNat / 16 ≤ 9 ∧
    (s.aluSource (.imm 0x99)).toNat % 16 ≤ 9 ∧
    (∃ t, exec (.alu .adc (.imm 0x99)) s = .next t ∧ ∃ u, exec .daa t = .next u ∧ u.a = 0x99 ∧ u.flagC = true) ∧
    ∃ t, exec (.alu .sbc (.imm 0x99)) s = .next t ∧ ∃ u, exec .daa t = .next u ∧ u.a = 0x99 ∧ u.flagC = true :=
  ⟨by decide, by decide, by decide, by decide, ⟨_, rfl, _, rfl, rfl, rfl⟩, ⟨_, rfl, _, rfl, rfl, rfl⟩⟩

/-- RotatesOfAnOperand, ShiftsAndSwapOfAnOperand: their operations. -/
theorem witness_shifts : ShiftOp.rl ∈ [ShiftOp.rlc, .rrc, .rl, .rr] ∧ ShiftOp.swap ∈ [ShiftOp.sla, .sra, .swap, .srl] := by
  decide

/-- Conditions taken and not taken (JumpsGoToTheirTarget, RelativeJumps, CallsPushTheReturnAddress, ReturnsPopTheirTarget). -/
theorem witness_conditions : base.cond .Z = true ∧ base.cond .NZ = false ∧ base.cond .C = true ∧ base.cond .NC = false := by
  decide

/-- StackRoundTrips: both pairs of steps happen. -/
theorem witness_round_trips :
    (∃ t, exec (.call_nn 0x1234) base = .next t ∧ ∃ u, exec .ret t = .next u ∧ u.pc = 0xC003) ∧
    ∃ t, exec (.push .BC) base = .next t ∧ ∃ u, exec (.pop .AF) t = .next u ∧ u.pair .AF = 0x0010 :=
  ⟨⟨_, rfl, _, rfl, rfl⟩, ⟨_, rfl, _, rfl, rfl⟩⟩

end Sys2Proof.Tests
end

section
/-! SUPPORT. The 8-bit adder, the subtracter and the decimal adjust in numbers (R170, R184), and what an accumulator
operation and `DAA` leave in A and the flags. -/

namespace Sys2Proof.Machine

/-! ## The adder and the subtracter in numbers (R170) -/

theorem lowNibble_toNat (v : Byte) : (v &&& 0x0F).toNat = v.toNat % 16 := by
  rw [BitVec.toNat_and]
  exact Nat.and_two_pow_sub_one_eq_mod v.toNat 4

variable (a v : Byte) (cin : Bool)

theorem add8_value : (add8 a v cin).value.toNat = (a.toNat + v.toNat + cin.toNat) % 256 := by
  simp [add8]

theorem add8_h : (add8 a v cin).h = decide (a.toNat % 16 + v.toNat % 16 + cin.toNat > 15) := by
  simp only [add8, lowNibble_toNat]

theorem add8_c : (add8 a v cin).c = decide (a.toNat + v.toNat + cin.toNat > 255) := rfl

theorem sub8_value : ((sub8 a v cin).value.toNat : Int) = ((a.toNat : Int) - v.toNat - cin.toNat) % 256 := by
  simp only [sub8, BitVec.toNat_ofInt]
  omega

theorem sub8_h : (sub8 a v cin).h = decide (a.toNat % 16 < v.toNat % 16 + cin.toNat) := by
  simp only [sub8, lowNibble_toNat]

theorem sub8_c : (sub8 a v cin).c = decide (a.toNat < v.toNat + cin.toNat) := rfl

/-! ## The decimal adjust in numbers (R184) -/

/-- After an addition: the high correction does not move the low digit, so both tests are on the sum itself. -/
theorem daaAdjust_afterAdd (h c : Bool) :
    (daaAdjust a false h c).2 = (c || decide (a.toNat > 0x99)) ∧
    (daaAdjust a false h c).1.toNat =
      (a.toNat + (if c || decide (a.toNat > 0x99) then 0x60 else 0) +
        (if h || decide (a.toNat % 16 > 9) then 0x06 else 0)) % 256 := by
  refine ⟨rfl, ?_⟩
  have hlow : (a.toNat + 0x60) % 16 = a.toNat % 16 := by omega
  cases hh : c || decide (a.toNat > 0x99) <;> simp [daaAdjust, hh, hlow] <;> split <;> rfl

theorem daaAdjust_afterSub (h c : Bool) :
    (daaAdjust a true h c).2 = c ∧
    ((daaAdjust a true h c).1.toNat : Int) =
      ((a.toNat : Int) - (if c then 0x60 else 0) - (if h then 0x06 else 0)) % 256 := by
  refine ⟨rfl, ?_⟩
  cases c <;> cases h <;> simp [daaAdjust] <;> omega

/-! ## What the instructions leave in A and the flags (R172 to R175, R184) -/

@[simp] theorem State.a_setReg_A (s : State) (v : Byte) : (s.setReg .A v).a = v := rfl

@[simp] theorem aluSource_fetched (s : State) (k : Nat) (src : AluSource) :
    (s.fetched k).aluSource src = s.aluSource src := by
  cases src <;> simp [State.aluSource]

/-- Every accumulator operation but CP leaves its result in A and its four flags in F. -/
theorem exec_alu_result {op : AluOp} {src : AluSource} {s t : State} (hop : op ≠ .cp)
    (h : exec (.alu op src) s = .next t) :
    let r := aluResult op s.a (s.aluSource src) s.flagC
    t.a = r.value ∧ t.flagN = r.n ∧ t.flagH = r.h ∧ t.flagC = r.c := by
  rw [exec_alu, complete_eq, Host.Outcome.next.injEq] at h
  subst h
  cases op with
  | cp => exact absurd rfl hop
  | add | adc | sub | sbc | and | xor | or => simp [accumulate]

theorem exec_daa_result {s t : State} (h : exec .daa s = .next t) :
    t.a = (daaAdjust s.a s.flagN s.flagH s.flagC).1 ∧ t.flagC = (daaAdjust s.a s.flagN s.flagH s.flagC).2 := by
  obtain rfl : ((decimalAdjust (s.fetched 1)).report 4) = t := Host.Outcome.next.inj h
  simp [decimalAdjust]

end Sys2Proof.Machine
end

section
/-! SUPPORT. Packed decimal arithmetic: the sum or difference of two bytes of two decimal digits, corrected by the decimal
adjust (R184), is the decimal result with its carry or borrow. -/

namespace Sys2Proof.Machine

/-- Both digits of the byte are decimal. -/
def IsDecimal (v : Byte) : Prop := v.toNat / 16 ≤ 9 ∧ v.toNat % 16 ≤ 9

/-- The number two decimal digits stand for. -/
def decimalValue (v : Byte) : Nat := 10 * (v.toNat / 16) + v.toNat % 16

/-- Digit sums `p` and `q` as an addition leaves them, with 6 added where a digit sum needs a carry: decimal digits and a
decimal carry. -/
theorem correctedSum_digits {p q n : Nat} (hp : p ≤ 18) (hq : q ≤ 19)
    (hn : n = (16 * p + q + (if 10 * p + q > 99 then 0x60 else 0) + (if q > 9 then 0x06 else 0)) % 256) :
    (n / 16 ≤ 9 ∧ n % 16 ≤ 9) ∧ 10 * (n / 16) + n % 16 + 100 * (decide (10 * p + q > 99)).toNat = 10 * p + q := by
  by_cases hcarry : q > 9 <;> by_cases hover : 10 * p + q > 99 <;> simp [hcarry, hover] at hn ⊢ <;> omega

section

variable {a v : Byte} (ha : IsDecimal a) (hv : IsDecimal v) (cin : Bool)
include ha hv

/-- The low correction is made when the sum of the low digits leaves a digit, the high one when the decimal sum leaves two
digits. -/
theorem daaAdjust_add8 :
    let w := add8 a v cin
    let r := daaAdjust w.value false w.h w.c
    IsDecimal r.1 ∧ decimalValue r.1 + 100 * r.2.toNat = decimalValue a + decimalValue v + cin.toNat := by
  intro w r
  have hcin := cin.toNat_le
  obtain ⟨ha1, ha0⟩ := ha
  obtain ⟨hv1, hv0⟩ := hv
  let p := a.toNat / 16 + v.toNat / 16
  let q := a.toNat % 16 + v.toNat % 16 + cin.toNat
  have hsum : 16 * p + q = a.toNat + v.toNat + cin.toNat := by omega
  have hlow : (w.h || decide (w.value.toNat % 16 > 9)) = decide (q > 9) := by
    rw [add8_h, add8_value, ← Bool.decide_or, decide_eq_decide]
    omega
  have hhigh : (w.c || decide (w.value.toNat > 0x99)) = decide (10 * p + q > 99) := by
    rw [add8_c, add8_value, ← Bool.decide_or, decide_eq_decide]
    omega
  obtain ⟨hC, hA⟩ : r.2 = _ ∧ r.1.toNat = _ := daaAdjust_afterAdd w.value w.h w.c
  rw [hhigh] at hC
  rw [hlow, hhigh, add8_value, ← hsum, Nat.add_assoc, Nat.mod_add_mod, ← Nat.add_assoc] at hA
  simp only [decide_eq_true_eq] at hA
  obtain ⟨hdec, hval⟩ := correctedSum_digits (by omega) (by omega) hA
  refine ⟨hdec, ?_⟩
  rw [hC, decimalValue, decimalValue, decimalValue, hval]
  omega

/-- The low correction is made when the low digit borrows, the high one when the whole difference does. -/
theorem daaAdjust_sub8 :
    let w := sub8 a v cin
    let r := daaAdjust w.value true w.h w.c
    IsDecimal r.1 ∧ decimalValue r.1 + decimalValue v + cin.toNat = decimalValue a + 100 * r.2.toNat := by
  intro w r
  have hcin := cin.toNat_le
  obtain ⟨ha1, ha0⟩ := ha
  obtain ⟨hv1, hv0⟩ := hv
  obtain ⟨hC, hA⟩ : r.2 = _ ∧ (r.1.toNat : Int) = _ := daaAdjust_afterSub w.value w.h w.c
  rw [sub8_c] at hC
  rw [sub8_h, sub8_c, sub8_value] at hA
  simp only [decide_eq_true_eq] at hA
  simp only [IsDecimal, decimalValue, hC]
  by_cases hborrow : a.toNat < v.toNat + cin.toNat <;>
    by_cases hlow : a.toNat % 16 < v.toNat % 16 + cin.toNat <;>
    simp [hborrow, hlow] at hA ⊢ <;> omega

end

section

variable {op : AluOp} {src : AluSource} {s t u : State} {cin : Bool} (ha : IsDecimal s.a)
  (hv : IsDecimal (s.aluSource src)) (ht : exec (.alu op src) s = .next t) (hu : exec .daa t = .next u)
include ha hv ht hu

/-- An operation that adds, then `DAA`: the decimal sum, C its carry. -/
theorem exec_daa_afterAdd (hop : aluResult op s.a (s.aluSource src) s.flagC = add8 s.a (s.aluSource src) cin) :
    IsDecimal u.a ∧
    decimalValue u.a + 100 * u.flagC.toNat = decimalValue s.a + decimalValue (s.aluSource src) + cin.toNat := by
  have hcp : op ≠ .cp := by rintro rfl; cases congrArg AluResult.n hop
  obtain ⟨hA, hN, hH, hC⟩ := exec_alu_result hcp ht
  obtain ⟨huA, huC⟩ := exec_daa_result hu
  rw [hop] at hA hN hH hC
  rw [huA, huC, hA, hN, hH, hC]
  exact daaAdjust_add8 ha hv cin

/-- An operation that subtracts and writes A, then `DAA`: the decimal difference, C its borrow. -/
theorem exec_daa_afterSub (hcp : op ≠ .cp)
    (hop : aluResult op s.a (s.aluSource src) s.flagC = sub8 s.a (s.aluSource src) cin) :
    IsDecimal u.a ∧
    decimalValue u.a + decimalValue (s.aluSource src) + cin.toNat = decimalValue s.a + 100 * u.flagC.toNat := by
  obtain ⟨hA, hN, hH, hC⟩ := exec_alu_result hcp ht
  obtain ⟨huA, huC⟩ := exec_daa_result hu
  rw [hop] at hA hN hH hC
  rw [huA, huC, hA, hN, hH, hC]
  exact daaAdjust_sub8 ha hv cin

end

/-- Settles O43, by the decimal laws of the adder and the subtracter with the carry the operation takes in. -/
theorem decimalAdjustKeepsArithmeticDecimal : Obligations.DecimalAdjustKeepsArithmeticDecimal := by
  unfold Obligations.DecimalAdjustKeepsArithmeticDecimal
  intro subtract withCarry src s t u op c bcd ha1 ha0 hv1 hv0 ht hu
  have ha : IsDecimal s.a := ⟨ha1, ha0⟩
  have hv : IsDecimal (s.aluSource src) := ⟨hv1, hv0⟩
  have hbcd : ∀ v, bcd v = decimalValue v := fun v => by simp [bcd, decimalValue]
  have hc : c = ((withCarry && s.flagC).toNat : Int) := by cases withCarry <;> rfl
  simp only [hbcd, hc]
  cases subtract with
  | false =>
    have hop : aluResult op s.a (s.aluSource src) s.flagC = add8 s.a (s.aluSource src) (withCarry && s.flagC) := by
      cases withCarry <;> rfl
    obtain ⟨⟨h1, h0⟩, hsum⟩ := exec_daa_afterAdd ha hv ht hu hop
    refine ⟨h1, h0, ?_⟩
    simp only [Bool.false_eq_true, if_false]
    omega
  | true =>
    have hcp : op ≠ .cp := by cases withCarry <;> decide
    have hop : aluResult op s.a (s.aluSource src) s.flagC = sub8 s.a (s.aluSource src) (withCarry && s.flagC) := by
      cases withCarry <;> rfl
    obtain ⟨⟨h1, h0⟩, hdiff⟩ := exec_daa_afterSub ha hv ht hu hcp hop
    refine ⟨h1, h0, ?_⟩
    simp only [if_true]
    omega

end Sys2Proof.Machine
end

section
/-! SUPPORT. What a step can answer, said once from the answered state (R110, R321, R327, R336): the stuck step, the idle
step, the IllegalOpcode outcome, or an effect of known frame with its cost reported. The whole-machine statements about the
invariant, cycle_count, `halted` and the fault latch follow from it. -/

namespace Sys2Proof.Machine

/-! ## The stuck step and the idle step, field by field -/

section

variable (s : State)

@[simp] theorem State.halted_stuckStep : s.stuckStep.halted = s.halted := rfl
@[simp] theorem State.fault_stuckStep : s.stuckStep.fault = s.fault := rfl
@[simp] theorem State.params_stuckStep : s.stuckStep.params = s.params := rfl
@[simp] theorem State.cycleCount_stuckStep : s.stuckStep.cycleCount = s.cycleCount := rfl
@[simp] theorem State.result_stuckStep : s.stuckStep.result = ⟨-1, none⟩ := rfl

@[simp] theorem State.halted_idleStep : s.idleStep.halted = s.halted := rfl
@[simp] theorem State.fault_idleStep : s.idleStep.fault = s.fault := rfl
@[simp] theorem State.params_idleStep : s.idleStep.params = s.params := rfl
@[simp] theorem State.cycleCount_idleStep :
    s.idleStep.cycleCount = (s.cycleCount + 4) % 2 ^ s.params.cycleCounterWidth := rfl
@[simp] theorem State.result_idleStep : s.idleStep.result = ⟨4, none⟩ := rfl

/-- The core is stuck unless no fault is latched or ILLEGAL_CONTINUES is true (R336). -/
theorem State.stuck_eq_false_iff : s.stuck = false ↔ s.fault = none ∨ s.params.illegalContinues = true := by
  cases hf : s.fault <;> simp [State.stuck, hf]

end

/-! ## What `exec` and `step` answer, from the answered state -/

section

variable {i : Instr} {s t : State}

/-- An illegal row answers the IllegalOpcode outcome, every other instruction an effect with the facts of its side on the
fetched state and a cost of 4 to 24. -/
theorem exec_next_cases (h : exec i s = .next t) :
    (∃ k, i = .illegal k ∧ t = s.raiseIllegal k.opcode) ∨
    ((∀ k, i ≠ .illegal k) ∧
      ∃ len cost u, t = u.report cost ∧ 4 ≤ cost ∧ cost ≤ 24 ∧ EffectFacts (sideOf i) (s.fetched len) u) := by
  by_cases hill : ∃ k, i = .illegal k
  · obtain ⟨k, rfl⟩ := hill
    rw [exec_illegal, Host.Outcome.next.injEq] at h
    exact .inl ⟨k, rfl, h.symm⟩
  · have hne := not_exists.1 hill
    obtain ⟨len, cost, u, hu, hfacts⟩ | ⟨k, hk, -⟩ := exec_answers i s
    · rw [h, Host.Outcome.next.injEq] at hu
      exact .inr ⟨hne, len, cost, u, hu, hfacts⟩
    · exact absurd hk (hne k)

theorem step_next_cases (h : step s = .next t) :
    (s.stuck = true ∧ t = s.stuckStep) ∨ (s.stuck = false ∧ s.halted = true ∧ t = s.idleStep) ∨
    (s.stuck = false ∧ s.halted = false ∧ exec s.nextInstr s = .next t) := by
  obtain ⟨hs, e⟩ | ⟨hs, hh, e⟩ | ⟨hs, hh, e⟩ := step_cases s <;> rw [e] at h
  · exact .inl ⟨hs, (Host.Outcome.next.inj h).symm⟩
  · exact .inr (.inl ⟨hs, hh, (Host.Outcome.next.inj h).symm⟩)
  · exact .inr (.inr ⟨hs, hh, h⟩)

/-- A report keeps cycle_count within its width (R40, R331). -/
theorem report_inv (h : DataInv s) (cost : Nat) : (s.report cost).Inv :=
  ⟨h.1, h.2, Nat.mod_lt _ (Nat.two_pow_pos _)⟩

theorem exec_keeps_inv (hs : s.Inv) (h : exec i s = .next t) : t.Inv := by
  obtain ⟨hmem, hf, hcount⟩ := hs
  obtain ⟨k, -, rfl⟩ | ⟨-, len, cost, u, rfl, -, -, hu⟩ := exec_next_cases h
  · exact ⟨hmem, hf, hcount⟩
  · exact report_inv (hu.dataInv ⟨hmem, hf⟩) cost

/-- An instruction leaves `halted` as it was, but for HALT, which sets it (R38, R301). -/
theorem exec_halted (h : exec i s = .next t) : t.halted = (s.halted || decide (sideOf i = .halts)) := by
  obtain ⟨k, rfl, rfl⟩ | ⟨-, len, cost, u, rfl, -, -, hu⟩ := exec_next_cases h
  · cases k <;> simp [sideOf, Instr.illegal]
  · simpa using hu.halted

theorem sideOf_eq_halts_iff (i : Instr) : sideOf i = .halts ↔ i = .halt := by
  unfold sideOf
  split <;> simp_all

/-- Only an illegal row writes the fault latch (R41, R321). -/
theorem exec_fault_of_not_illegal (hi : ∀ k, i ≠ .illegal k) (h : exec i s = .next t) : t.fault = s.fault := by
  obtain ⟨k, hk, -⟩ | ⟨-, len, cost, u, rfl, -, -, hu⟩ := exec_next_cases h
  · exact absurd hk (hi k)
  · simpa using hu.fault

theorem exec_illegal_fault {k : IllegalRow} (h : exec (.illegal k) s = .next t) :
    t.fault = s.fault.or (some (.illegalOpcode k.opcode)) := by
  rw [exec_illegal, Host.Outcome.next.injEq] at h
  simp [← h]

theorem exec_params (h : exec i s = .next t) : t.params = s.params := by
  obtain ⟨k, -, rfl⟩ | ⟨-, len, cost, u, rfl, -, -, hu⟩ := exec_next_cases h
  · rfl
  · simpa using hu.params

/-- A latched fault stays whatever runs (R336). -/
theorem exec_keeps_fault {x : Fault} (hx : s.fault = some x) (h : exec i s = .next t) : t.fault = some x := by
  by_cases hi : ∃ k, i = .illegal k
  · obtain ⟨k, rfl⟩ := hi
    simp [exec_illegal_fault h, hx]
  · rw [exec_fault_of_not_illegal (not_exists.1 hi) h, hx]

/-- From an empty latch a fault is latched exactly by an illegal row, with its opcode (R321). -/
theorem exec_latches_iff (hs : s.fault = none) (h : exec i s = .next t) (x : Fault) :
    t.fault = some x ↔ ∃ k : IllegalRow, i = .illegal k ∧ x = .illegalOpcode k.opcode := by
  constructor
  · intro hx
    by_cases hi : ∃ k, i = .illegal k
    · obtain ⟨k, rfl⟩ := hi
      rw [exec_illegal_fault h, hs, Option.none_or, Option.some.injEq] at hx
      exact ⟨k, rfl, hx.symm⟩
    · rw [exec_fault_of_not_illegal (not_exists.1 hi) h, hs] at hx
      cases hx
  · rintro ⟨k, rfl, rfl⟩
    rw [exec_illegal_fault h, hs, Option.none_or]

/-- An instruction's answer adds its cost to cycle_count, or reports -1 and leaves cycle_count (R321, R331). -/
theorem exec_cycleCount (h : exec i s = .next t) :
    (t.result.cost = -1 ∧ t.cycleCount = s.cycleCount) ∨
    ∃ cost : Nat, t.result.cost = cost ∧ t.cycleCount = (s.cycleCount + cost) % 2 ^ s.params.cycleCounterWidth := by
  obtain ⟨k, -, rfl⟩ | ⟨-, len, cost, u, rfl, -, -, hu⟩ := exec_next_cases h
  · exact .inl ⟨rfl, rfl⟩
  · exact .inr ⟨cost, rfl, by simp [hu.cycleCount, hu.params]⟩

theorem step_cycleCount (h : step s = .next t) :
    (t.result.cost = -1 ∧ t.cycleCount = s.cycleCount) ∨
    ∃ cost : Nat, t.result.cost = cost ∧ t.cycleCount = (s.cycleCount + cost) % 2 ^ s.params.cycleCounterWidth := by
  obtain ⟨-, rfl⟩ | ⟨-, -, rfl⟩ | ⟨-, -, he⟩ := step_next_cases h
  · exact .inl ⟨rfl, rfl⟩
  · exact .inr ⟨4, rfl, rfl⟩
  · exact exec_cycleCount he

end

/-! ## The invariant, cycle_count, `halted` and the fault latch over a step -/

/-- Settles O12: an effect keeps the data invariant and a report keeps cycle_count within its width. -/
theorem everyStepKeepsTheInvariant : Obligations.EveryStepKeepsTheInvariant := by
  unfold Obligations.EveryStepKeepsTheInvariant
  intro s t hs h
  obtain ⟨-, rfl⟩ | ⟨-, -, rfl⟩ | ⟨-, -, he⟩ := step_next_cases h
  · exact hs
  · obtain ⟨hmem, hf, -⟩ := hs
    exact report_inv ⟨hmem, hf⟩ 4
  · exact exec_keeps_inv hs he

/-- Settles O7: a step either reports -1 and leaves cycle_count or adds the cost it reports. -/
theorem cycleCountSumsTheReportedCosts : Obligations.CycleCountSumsTheReportedCosts := by
  unfold Obligations.CycleCountSumsTheReportedCosts
  refine ⟨fun s t h => ?_, fun b s => by cases b <;> rfl, fun bytes s t h => ?_, fun _ => rfl, fun v s t h => ?_⟩
  · obtain ⟨hcost, hcount⟩ | ⟨cost, hcost, hcount⟩ := step_cycleCount h
    · exact ⟨by omega, fun _ => hcount⟩
    · exact ⟨fun _ => by rw [hcost, hcount]; push_cast; rfl, by omega⟩
  · unfold loadImage at h
    split at h <;> cases h
    rfl
  · unfold interruptEntry at h
    split at h <;> cases h
    exact State.cycleCount_enterInterrupt ..

/-- Settles O10: a stuck or idle step leaves `halted`, and an instruction sets it when its side is HALT's. -/
theorem onlyHaltStopsTheCore : Obligations.OnlyHaltStopsTheCore := by
  unfold Obligations.OnlyHaltStopsTheCore
  intro s t h
  rw [← s.stuck_eq_false_iff]
  obtain ⟨hs, rfl⟩ | ⟨hs, hh, rfl⟩ | ⟨hs, hh, he⟩ := step_next_cases h
  · simp +contextual [hs]
  · simp [hh]
  · simp [hs, hh, exec_halted he, sideOf_eq_halts_iff]

/-- Settles O11: only the IllegalOpcode outcome writes the latch, and only an empty one. -/
theorem onlyIllegalOpcodesLatchAFault : Obligations.OnlyIllegalOpcodesLatchAFault := by
  unfold Obligations.OnlyIllegalOpcodesLatchAFault
  intro s t h
  obtain ⟨hs, rfl⟩ | ⟨-, hh, rfl⟩ | ⟨-, hh, he⟩ := step_next_cases h
  · refine ⟨rfl, fun _ hx => hx, fun hnone => ?_⟩
    rw [s.stuck_eq_false_iff.2 (.inl hnone)] at hs
    cases hs
  · exact ⟨rfl, fun _ hx => hx, fun hnone x => by simp [hnone, hh]⟩
  · exact ⟨exec_params he, fun x hx => exec_keeps_fault hx he, fun hnone x => by
      simp only [hh, true_and, exec_latches_iff hnone he]⟩

end Sys2Proof.Machine
end

section
/-! SUPPORT. What instructions do not read (R40, R41, R330, R331): cycle_count and the fault latch. An instruction run on a
state with other values of the two answers the same state apart from them. -/

namespace Sys2Proof.Machine

/-- The state with other values of cycle_count and the fault latch. -/
def State.withCountFault (s : State) (n : Nat) (x : Option Fault) : State := { s with cycleCount := n, fault := x }

/-- Both answer a next state, the same one apart from cycle_count and the fault latch. -/
def AgreeButCountFault (r r' : Result) : Prop :=
  ∃ t u, r = .next t ∧ r' = .next u ∧ u.withCountFault t.cycleCount t.fault = t

/-- An effect that neither reads nor writes cycle_count or the fault latch. -/
def IgnoresCountFault (effect : State → State) : Prop :=
  ∀ s n x, effect (s.withCountFault n x) = (effect s).withCountFault n x

section

variable {effect : State → State} (he : IgnoresCountFault effect) (s : State) (n : Nat) (x : Option Fault)
include he

theorem complete_agrees (len cost : Nat) :
    AgreeButCountFault (complete len cost effect s) (complete len cost effect (s.withCountFault n x)) := by
  refine ⟨_, _, rfl, rfl, ?_⟩
  have hu : effect ((s.withCountFault n x).fetched len) = (effect (s.fetched len)).withCountFault n x :=
    he (s.fetched len) n x
  rw [hu]
  rfl

theorem completeIf_agrees (taken : Bool) (len cost cost' : Nat) :
    AgreeButCountFault (completeIf taken len cost cost' effect s)
      (completeIf taken len cost cost' effect (s.withCountFault n x)) := by
  cases taken with
  | false => exact complete_agrees (effect := id) (fun _ _ _ => rfl) s n x len cost'
  | true => exact complete_agrees he s n x len cost

end

theorem raiseIllegal_agrees (o : Byte) (s : State) (n : Nat) (x : Option Fault) :
    AgreeButCountFault (.next (s.raiseIllegal o)) (.next ((s.withCountFault n x).raiseIllegal o)) :=
  ⟨_, _, rfl, rfl, rfl⟩

section

variable (s : State) (n : Nat) (x : Option Fault) (o : Operand8)

@[simp] theorem operand_withCountFault : (s.withCountFault n x).operand o = s.operand o := by
  rcases o with r | _
  · cases r <;> rfl
  · rfl

@[simp] theorem setOperand_withCountFault (v : Byte) :
    (s.withCountFault n x).setOperand o v = (s.setOperand o v).withCountFault n x := by
  rcases o with r | _
  · cases r <;> rfl
  · rfl

@[simp] theorem setFlags_withCountFault (z nf h c : Bool) :
    (s.withCountFault n x).setFlags z nf h c = (s.setFlags z nf h c).withCountFault n x := rfl

@[simp] theorem flagC_withCountFault : (s.withCountFault n x).flagC = s.flagC := rfl

end

theorem extEffect_ignores (o2 : Byte) : IgnoresCountFault (extEffect o2) := by
  intro s n x
  unfold extEffect
  split
  · simp [shiftOperand]
  · simp [testBit]
  · simp [resetBit]
  · simp [setBit]

/-- The illegal rows write the latch, the conditional rows test F, the 0xCB entry reads its effect from memory; every other row
is one effect that commutes with the change of the two fields by computation. -/
theorem exec_agrees (i : Instr) (s : State) (n : Nat) (x : Option Fault) :
    AgreeButCountFault (exec i s) (exec i (s.withCountFault n x)) := by
  cases i
  case prefix_CB => exact complete_agrees (extEffect_ignores _) ..
  case illegal_D3 | illegal_DB | illegal_DD | illegal_E3 | illegal_E4 | illegal_EB | illegal_EC | illegal_ED | illegal_F4 |
      illegal_FC | illegal_FD =>
    exact raiseIllegal_agrees ..
  case jr_NZ_e | jr_Z_e | jr_NC_e | jr_C_e | jp_NZ_nn | jp_Z_nn | jp_NC_nn | jp_C_nn | call_NZ_nn | call_Z_nn | call_NC_nn |
      call_C_nn | ret_NZ | ret_Z | ret_NC | ret_C =>
    exact completeIf_agrees (fun _ _ _ => rfl) ..
  all_goals exact complete_agrees (fun _ _ _ => rfl) ..

/-- Where an instruction starts from equal fault latches it ends with equal ones. -/
theorem exec_fault_congr {i : Instr} {s s' t t' : State} (hs : s'.fault = s.fault) (h : exec i s = .next t)
    (h' : exec i s' = .next t') : t'.fault = t.fault := by
  by_cases hi : ∃ k, i = .illegal k
  · obtain ⟨k, rfl⟩ := hi
    rw [exec_illegal_fault h, exec_illegal_fault h', hs]
  · rw [exec_fault_of_not_illegal (not_exists.1 hi) h, exec_fault_of_not_illegal (not_exists.1 hi) h', hs]

/-! The cases of a step (R327), each from its conditions. -/

theorem step_of_stuck {s : State} (hs : s.stuck = true) : step s = .next s.stuckStep := by
  simp [step, stepWith, hs]

theorem step_of_halted {s : State} (hs : s.stuck = false) (hh : s.halted = true) : step s = .next s.idleStep := by
  simp [step, stepWith, hs, hh]

theorem step_of_running {s : State} (hs : s.stuck = false) (hh : s.halted = false) : step s = exec s.nextInstr s := by
  simp [step, stepWith, hs, hh]

/-- Settles O8: which case a step is and which instruction it runs do not depend on cycle_count, and the instruction agrees
apart from the two fields. -/
theorem noInstructionReadsCycleCountOrFault : Obligations.NoInstructionReadsCycleCountOrFault := by
  unfold Obligations.NoInstructionReadsCycleCountOrFault
  refine ⟨fun s t n h => ?_, fun i s t n x h => ?_⟩
  · obtain ⟨hs, rfl⟩ | ⟨hs, hh, rfl⟩ | ⟨hs, hh, he⟩ := step_next_cases h
    · exact ⟨_, step_of_stuck hs, rfl⟩
    · exact ⟨_, step_of_halted hs hh, rfl⟩
    · obtain ⟨t', u, ht, hu, hagree⟩ := exec_agrees s.nextInstr s n s.fault
      obtain rfl : t = t' := Host.Outcome.next.inj (he.symm.trans ht)
      have hfault : u.fault = t.fault := exec_fault_congr (s := s) (s' := s.withCountFault n s.fault) rfl he hu
      rw [← hfault] at hagree
      exact ⟨u, (step_of_running (s := s.withCountFault n s.fault) hs hh).trans hu, hagree⟩
  · obtain ⟨t', u, ht, hu, hagree⟩ := exec_agrees i s n x
    obtain rfl : t = t' := Host.Outcome.next.inj (h.symm.trans ht)
    exact ⟨u, hu, hagree⟩

end Sys2Proof.Machine
end

section
/-! SUPPORT. The state reset leaves (R45), the pairs as views of the cells (R31 to R33) and the flag setters (R34, R35). -/

namespace Sys2Proof.Machine

theorem resetTo_inv (b : Bool) (p : Config.Params) {m : Memory} (hm : m.wf) : (State.resetTo b p m).Inv := by
  have hf : (State.resetTo b p m).f &&& 0x0F = 0 := by cases b <;> simp [State.resetTo]
  cases b <;> exact ⟨hm, hf, Nat.two_pow_pos _⟩

/-- Settles O13: over a memory in canonical form, and the empty one is. -/
theorem resetMeetsTheInvariant : Obligations.ResetMeetsTheInvariant :=
  ⟨resetTo_inv _ _ Memory.wf_nil, fun _ _ hm => resetTo_inv _ _ hm⟩

/-- Settles O15: each value stands in `State.resetTo`, which keeps the memory it is given. -/
theorem resetLeavesTheListedValues : Obligations.ResetLeavesTheListedValues := by
  unfold Obligations.ResetLeavesTheListedValues
  refine fun s => ⟨⟨rfl, rfl, rfl, rfl, rfl, rfl, rfl, rfl, rfl, rfl⟩, ⟨fun r => ?_, rfl, rfl, rfl⟩, fun b => ?_⟩
  · cases r <;> rfl
  · cases b <;> exact ⟨rfl, rfl, rfl, fun _ _ => rfl⟩

/-- Masking with 0xF0 drops the low nibble. -/
theorem highNibble_toNat (v : Byte) : (v &&& 0xF0).toNat = v.toNat / 16 * 16 := by
  revert v; decide

/-- Settles O20: a pair is the word of its two cells, and `setPair` writes the halves of the word. -/
theorem pairsAreViewsOfTheCells : Obligations.PairsAreViewsOfTheCells := by
  unfold Obligations.PairsAreViewsOfTheCells
  refine ⟨fun s => ⟨wordOf_toNat .., wordOf_toNat .., wordOf_toNat .., wordOf_toNat ..⟩,
    fun v => ⟨hiByte_toNat v, loByte_toNat v⟩, fun s q v => ⟨setPair_becomes s q v, fun hq => ?_, ?_⟩, fun s v => ?_⟩
  · cases q with
    | AF => exact absurd rfl hq
    | BC | DE | HL => rfl
  · cases q <;> rfl
  · rw [State.f_setPair_AF, highNibble_toNat, loByte_toNat]

/-- A bit of a byte by division. -/
theorem getLsbD_eq_true_iff (v : Byte) (k : Nat) : v.getLsbD k = true ↔ v.toNat / 2 ^ k % 2 = 1 := by
  rw [← BitVec.testBit_toNat, Nat.testBit_eq_decide_div_mod_eq, decide_eq_true_eq]

/-- Settles O21: each setter is the simultaneous flag write with the other three flags passed through. -/
theorem flagSettersWriteTheirOwnBit : Obligations.FlagSettersWriteTheirOwnBit := by
  unfold Obligations.FlagSettersWriteTheirOwnBit
  exact fun s b => ⟨setFlags_flagsAre .., setFlags_flagsAre .., setFlags_flagsAre .., setFlags_flagsAre ..,
    getLsbD_eq_true_iff s.f 7, getLsbD_eq_true_iff s.f 6, getLsbD_eq_true_iff s.f 5, getLsbD_eq_true_iff s.f 4⟩

end Sys2Proof.Machine
end

section
/-! SUPPORT. Memory as the host fills it (R62, R68, R69): a list of bytes at rising addresses reads back there, changes
nothing else and keeps the canonical form; what `loadImage` and `interruptEntry` answer. -/

namespace Sys2Proof.Machine

/-! ## Writing an address twice -/

/-- The last write to an address is the one that counts, in the list of cells too where it is canonical (R62). -/
theorem Memory.write_write {m : Memory} (hm : m.wf) {x : Nat} (hx : x < 65536) (w v : Byte) :
    (m.write x w).write x v = m.write x v := by
  have hwrite {n : Memory} (u : Byte) (hn : n.wf) : (n.write x u).wf := Memory.write_wf n x u hn hx
  refine Memory.ext_of_wf (hwrite v (hwrite w hm)) (hwrite v hm) fun y _ => ?_
  simp only [Memory.read_write]
  split <;> rfl

/-- Settles O18: the memory laws through the state's byte access. -/
theorem memoryReadsBackWhatWasWritten : Obligations.MemoryReadsBackWhatWasWritten := by
  unfold Obligations.MemoryReadsBackWhatWasWritten
  refine fun s x v => ⟨State.readByte_writeByte_same .., fun y hy => ?_, rfl, fun hm => ?_⟩
  · exact State.readByte_writeByte_other _ _ _ _ (by simpa using hy)
  · exact congrArg (fun m => { s with mem := m }) (Memory.write_write hm x.isLt v v)

/-! ## Filling memory with a list of bytes -/

theorem Memory.fill_wf {m : Memory} (hm : m.wf) {start : Nat} {vs : List Byte} (hlen : start + vs.length ≤ 65536) :
    (m.fill start vs).wf := by
  induction vs generalizing m start with
  | nil => exact hm
  | cons v vs ih =>
    rw [List.length_cons] at hlen
    exact ih (Memory.write_wf m start v hm (by omega)) (by omega)

theorem Memory.read_fill_outside (m : Memory) {start y : Nat} {vs : List Byte}
    (hy : y < start ∨ start + vs.length ≤ y) : (m.fill start vs).read y = m.read y := by
  induction vs generalizing m start with
  | nil => rfl
  | cons v vs ih =>
    rw [List.length_cons] at hy
    rw [Memory.fill, ih _ (by omega), Memory.read_write_other _ _ _ _ (by omega)]

/-- The later bytes of the list go to later addresses, so each byte is still there at the end. -/
theorem Memory.read_fill_inside (m : Memory) (start : Nat) {vs : List Byte} {i : Nat} (hi : i < vs.length) :
    (m.fill start vs).read (start + i) = vs[i] := by
  induction vs generalizing m start i with
  | nil => cases hi
  | cons v vs ih =>
    cases i with
    | zero => rw [Memory.fill, Memory.read_fill_outside _ (by omega), Nat.add_zero, Memory.read_write_same]; rfl
    | succ i =>
      have haddr : start + (i + 1) = start + 1 + i := by omega
      rw [Memory.fill, haddr]
      exact ih _ _ (Nat.lt_of_succ_lt_succ hi)

/-- The empty memory filled with the first `n` values of a content holds them in canonical form. -/
theorem Memory.exists_wf_content (content : Nat → Byte) {n : Nat} (hn : n ≤ 65536) :
    ∃ m : Memory, m.wf ∧ ∀ i < n, m.read i = content i := by
  have hlen : ((List.range n).map content).length = n := by rw [List.length_map, List.length_range]
  refine ⟨Memory.fill [] 0 ((List.range n).map content), Memory.fill_wf Memory.wf_nil (by omega), fun i hi => ?_⟩
  have hread := Memory.read_fill_inside [] 0 (hi.trans_eq hlen.symm)
  rwa [Nat.zero_add, List.getElem_map, List.getElem_range] at hread

/-- Settles O19: every address is below 65536, so a canonical memory with the content of those is one for all. -/
theorem everyMemoryContentIsAState : Obligations.EveryMemoryContentIsAState := by
  unfold Obligations.EveryMemoryContentIsAState
  intro content s
  obtain ⟨m, hm, hread⟩ := Memory.exists_wf_content content (Nat.le_refl 65536)
  exact ⟨m, hm, fun x => hread _ x.isLt⟩

/-! ## The host's operations -/

section

variable {bytes : List Byte} {s t : State}

theorem loadImage_of_short (h : bytes.length < 32768) : loadImage bytes s = .error .imageTooShort := if_pos h

theorem loadImage_of_long (h : 32768 ≤ bytes.length) :
    loadImage bytes s = .ok { s with mem := s.mem.fill 0 (bytes.take 32768) } := if_neg (Nat.not_lt.2 h)

/-- An image that is taken is long enough (R69). -/
theorem loadImage_eq_ok_iff :
    loadImage bytes s = .ok t ↔ 32768 ≤ bytes.length ∧ { s with mem := s.mem.fill 0 (bytes.take 32768) } = t := by
  obtain h | h := Nat.lt_or_ge bytes.length 32768
  · simp [loadImage_of_short h, h]
  · simp [loadImage_of_long h, h]

theorem interruptEntry_eq_some_iff {v : InterruptVector} :
    interruptEntry v s = some t ↔ s.params.interruptEntry = true ∧ s.enterInterrupt v.address = t := by
  simp [interruptEntry]

/-- The entry pushes PC, which keeps the data invariant, and reports its cost. -/
theorem enterInterrupt_inv (h : DataInv s) (x : Word) : (s.enterInterrupt x).Inv :=
  report_inv ((DataInv.push16 (s := { s with halted := false, result := StepResult.none }) h _).setPc _) 20

end

/-- Settles O14: the fill of `loadImage` ends inside the address space, and the entry of an interrupt is a push and a
report. -/
theorem hostOperationsKeepTheInvariant : Obligations.HostOperationsKeepTheInvariant := by
  unfold Obligations.HostOperationsKeepTheInvariant
  rintro s ⟨hmem, hf, hcount⟩
  refine ⟨⟨hmem, hf, hcount⟩, fun v t h => ?_, fun bytes t h => ?_⟩
  · obtain ⟨-, rfl⟩ := interruptEntry_eq_some_iff.1 h
    exact enterInterrupt_inv ⟨hmem, hf⟩ _
  · obtain ⟨-, rfl⟩ := loadImage_eq_ok_iff.1 h
    have hlen := List.length_take_le 32768 bytes
    exact ⟨Memory.fill_wf hmem (by omega), hf, hcount⟩

/-- Settles O16: the addresses below 32768 lie inside the fill, the others outside. -/
theorem loadImageFillsTheImageRegion : Obligations.LoadImageFillsTheImageRegion := by
  unfold Obligations.LoadImageFillsTheImageRegion
  refine fun bytes s => ⟨loadImage_of_short, fun hlong =>
    ⟨_, loadImage_of_long hlong, fun x hx => ?_, fun x hx => ?_, rfl⟩⟩
  · have hi : x.toNat < (bytes.take 32768).length := by rw [List.length_take]; omega
    have hread := Memory.read_fill_inside s.mem 0 hi
    rw [Nat.zero_add, List.getElem_take] at hread
    rw [List.getElem?_eq_getElem (by omega), ← hread]
    rfl
  · have hlen := List.length_take_le 32768 bytes
    exact Memory.read_fill_outside s.mem (.inr (by omega))

end Sys2Proof.Machine
end

section
/-! SUPPORT. The decoder and the encoder agree (R90, R99 to R102, R115): the encoder writes each table entry as the entry's
opcode and its immediates, the decoder reads them back, and the lengths, the illegal rows and the whole instructions at PC
follow from the two directions. -/

namespace Sys2Proof

open Machine

/-! ## What the encoder writes, the decoder reads -/

/-- A word travels as its low byte and its high byte (R7, R96). -/
theorem decode_opWord {o : Byte} {f : Word → Instr} (ho : baseEntry o = .opWord f) (nn : Word) (rest : List Byte) :
    decode (o :: loByte nn :: hiByte nn :: rest) = .ok (f nn, rest) := by
  simp [decode, ho]

/-- A row with a word has the word's halves put together again; every other row's bytes stand in `encode` as they are, so it
decodes by computation. -/
theorem decode_encode {i : Instr} (hi : i.WellFormed) (rest : List Byte) : decode (encode i ++ rest) = .ok (i, rest) := by
  cases i
  case prefix_CB => cases hi
  case ld_BC_nn | ld_ind_nn_SP | ld_DE_nn | ld_HL_nn | ld_SP_nn | jp_NZ_nn | jp_nn | call_NZ_nn | jp_Z_nn | call_Z_nn |
      call_nn | jp_NC_nn | call_NC_nn | jp_C_nn | call_C_nn | ld_ind_nn_A | ld_A_ind_nn =>
    exact decode_opWord rfl ..
  all_goals rfl

/-- Settles O23. -/
theorem decodeOfEncodeIsTheInstruction : Obligations.DecodeOfEncodeIsTheInstruction :=
  fun _ rest hi => decode_encode hi rest

/-- Settles O26: the words are the encodings of these instructions, with nothing after them. -/
theorem sampleWordsOfEachFamilyDecode : Obligations.SampleWordsOfEachFamilyDecode :=
  have decodes (i : Instr) (hi : i.WellFormed) : decode (encode i ++ []) = .ok (i, []) := decode_encode hi []
  ⟨decodes .ld_C_B rfl, decodes (.ld_BC_nn 0x1234) rfl, decodes .sbc_A_H rfl, decodes .inc_HL rfl, decodes .sra_indHL rfl,
    decodes .bit_7_H rfl, decodes (.jp_C_nn 0x2000) rfl, decodes .push_AF rfl, decodes (.stop 0xCB) rfl,
    decodes .illegal_DD rfl⟩

/-! ## What the decoder reads, the encoder writes -/

/-- Whatever its immediates are, an instruction of the entry is encoded as the opcode `o` and them, the low byte of a word
first (R96); the entry of the extended table is the byte 0xCB (R99). -/
def Entry.Spells (e : Entry) (o : Byte) : Prop := ∀ (n : Byte) (nn : Word),
  match e with
  | .op i => encode i = [o]
  | .opByte f => encode (f n) = [o, n]
  | .opWord f => encode (f nn) = [o, loByte nn, hiByte nn]
  | .extended => o = 0xCB

theorem baseEntry_spells (o : Byte) : (baseEntry o).Spells o := by
  obtain ⟨k⟩ := o
  fin_cases k <;> exact fun _ _ => rfl

theorem encode_extInstr (o2 : Byte) : encode (extInstr o2) = [0xCB, o2] := by
  revert o2; decide

@[simp] theorem loByte_wordOf (hi lo : Byte) : loByte (wordOf hi lo) = lo := by
  apply BitVec.eq_of_toNat_eq
  rw [loByte_toNat, wordOf_toNat]
  omega

@[simp] theorem hiByte_wordOf (hi lo : Byte) : hiByte (wordOf hi lo) = hi := by
  apply BitVec.eq_of_toNat_eq
  rw [hiByte_toNat, wordOf_toNat]
  omega

/-- Each shape of a table entry takes from the bytes what its encoding has. -/
theorem eq_encode_append_of_decode {bytes rest : List Byte} {i : Instr} (h : decode bytes = .ok (i, rest)) :
    bytes = encode i ++ rest := by
  obtain _ | ⟨o, tail⟩ := bytes
  · cases h
  have hs := baseEntry_spells o
  simp only [decode] at h
  cases he : baseEntry o <;> simp only [he] at h hs
  case op j =>
    cases h
    rw [hs 0 0, List.singleton_append]
  case opByte f =>
    obtain _ | ⟨n, tail⟩ := tail <;> cases h
    rw [hs n 0]; rfl
  case opWord f =>
    obtain _ | ⟨lo, _ | ⟨hi, tail⟩⟩ := tail <;> cases h
    rw [hs 0 (wordOf hi lo), loByte_wordOf, hiByte_wordOf]; rfl
  case extended =>
    obtain rfl : o = 0xCB := hs 0 0
    obtain _ | ⟨o2, tail⟩ := tail <;> cases h
    · rfl
    · rw [encode_extInstr]; rfl

/-- Settles O24. -/
theorem bytesHaveOneMeaning : Obligations.BytesHaveOneMeaning :=
  fun _ _ _ => eq_encode_append_of_decode

/-! ## The instruction of three bytes (R90, R111, R115) -/

/-- How many bytes the instructions of an entry have. -/
def Entry.length : Entry → Nat
  | .op _ => 1
  | .opByte _ => 2
  | .opWord _ => 3
  | .extended => 2

theorem Entry.length_range (e : Entry) : 1 ≤ e.length ∧ e.length ≤ 3 := by
  cases e <;> simp [Entry.length]

/-- Three bytes always suffice, and the first one says how many are taken. -/
theorem decode_three (b0 b1 b2 : Byte) (rest : List Byte) :
    decode (b0 :: b1 :: b2 :: rest) =
      .ok (decodeBytes b0 b1 b2, (b0 :: b1 :: b2 :: rest).drop (baseEntry b0).length) := by
  simp only [decode, decodeBytes]
  cases baseEntry b0 <;> rfl

theorem decodeBytes_eq_of_decode {b0 b1 b2 : Byte} {rest tail : List Byte} {i : Instr}
    (h : decode (b0 :: b1 :: b2 :: rest) = .ok (i, tail)) : decodeBytes b0 b1 b2 = i := by
  rw [decode_three] at h
  exact (Prod.mk.inj (Except.ok.inj h)).1

theorem encode_decodeBytes_append (b0 b1 b2 : Byte) (rest : List Byte) :
    encode (decodeBytes b0 b1 b2) ++ (b0 :: b1 :: b2 :: rest).drop (baseEntry b0).length = b0 :: b1 :: b2 :: rest :=
  (eq_encode_append_of_decode (decode_three ..)).symm

theorem length_encode_decodeBytes (b0 b1 b2 : Byte) :
    (encode (decodeBytes b0 b1 b2)).length = (baseEntry b0).length := by
  obtain ⟨-, hle⟩ := Entry.length_range (baseEntry b0)
  have h := congrArg List.length (encode_decodeBytes_append b0 b1 b2 [])
  simp only [List.length_append, List.length_drop, List.length_cons, List.length_nil] at h
  omega

/-- An instruction of one byte is that byte. -/
theorem eq_first_of_decodeBytes {b0 b1 b2 o : Byte} {i : Instr} (hi : encode i = [o]) (h : decodeBytes b0 b1 b2 = i) :
    o = b0 := by
  have hbytes := encode_decodeBytes_append b0 b1 b2 []
  rw [h, hi] at hbytes
  exact (List.cons.inj hbytes).1

/-- An instruction of one byte is no extended one. -/
theorem extInstr_ne {o o2 : Byte} {i : Instr} (hi : encode i = [o]) : extInstr o2 ≠ i := by
  rintro rfl
  rw [encode_extInstr] at hi
  cases hi

theorem wellFormed_iff (i : Instr) : i.WellFormed ↔ i ≠ .prefix_CB := by
  unfold Instr.WellFormed Instr.isWhole
  split <;> simp_all

/-- Three bytes that begin with 0xCB are an extended instruction of two bytes, never the prefix alone (R112). -/
theorem decodeBytes_wellFormed (b0 b1 b2 : Byte) : (decodeBytes b0 b1 b2).WellFormed := by
  rw [wellFormed_iff]
  intro h
  obtain rfl : 0xCB = b0 := eq_first_of_decodeBytes rfl h
  exact extInstr_ne rfl h

/-- Settles O25: the first byte's table entry gives the length. -/
theorem decodeIsTotalAndLengthsAreFixed : Obligations.DecodeIsTotalAndLengthsAreFixed := by
  unfold Obligations.DecodeIsTotalAndLengthsAreFixed
  refine ⟨fun b0 b1 b2 rest => ?_, fun b0 b1 b2 c1 c2 => ?_⟩
  · refine ⟨_, _, decode_three .., rfl, decodeBytes_wellFormed .., ?_⟩
    rw [length_encode_decodeBytes]
    exact Entry.length_range _
  · rw [length_encode_decodeBytes, length_encode_decodeBytes]

/-! ## The illegal rows (R102) -/

@[simp] theorem encode_illegal (k : IllegalRow) : encode (.illegal k) = [k.opcode] := by cases k <;> rfl

theorem illegal_wellFormed (k : IllegalRow) : (Instr.illegal k).WellFormed := by cases k <;> rfl

theorem illegal_encodes (k : IllegalRow) : Encodes (.illegal k) [k.opcode] := by
  refine ⟨encode_illegal k, fun rest => ?_⟩
  rw [← encode_illegal]
  exact decode_encode (illegal_wellFormed k) rest

theorem decodeBytes_eq_illegal_iff (o b1 b2 : Byte) (k : IllegalRow) :
    decodeBytes o b1 b2 = .illegal k ↔ k.opcode = o := by
  refine ⟨eq_first_of_decodeBytes (encode_illegal k), ?_⟩
  rintro rfl
  exact decodeBytes_eq_of_decode ((illegal_encodes k).2 [b1, b2])

theorem exists_opcode_eq_iff (o : Byte) : (∃ k : IllegalRow, k.opcode = o) ↔
    o ∈ ([0xD3, 0xDB, 0xDD, 0xE3, 0xE4, 0xEB, 0xEC, 0xED, 0xF4, 0xFC, 0xFD] : List Byte) := by
  constructor
  · rintro ⟨k, rfl⟩
    cases k <;> decide
  · simp only [List.mem_cons, List.not_mem_nil, or_false]
    rintro (rfl | rfl | rfl | rfl | rfl | rfl | rfl | rfl | rfl | rfl | rfl)
    exacts [⟨.D3, rfl⟩, ⟨.DB, rfl⟩, ⟨.DD, rfl⟩, ⟨.E3, rfl⟩, ⟨.E4, rfl⟩, ⟨.EB, rfl⟩, ⟨.EC, rfl⟩, ⟨.ED, rfl⟩, ⟨.F4, rfl⟩,
      ⟨.FC, rfl⟩, ⟨.FD, rfl⟩]

/-- Settles O5: an illegal row's encoding is its opcode alone, which begins the bytes it is decoded from, and an extended
instruction has two bytes. -/
theorem exactlyElevenIllegalOpcodes : Obligations.ExactlyElevenIllegalOpcodes := by
  unfold Obligations.ExactlyElevenIllegalOpcodes
  refine ⟨fun o b1 b2 => ?_, fun o b1 b2 k => (decodeBytes_eq_illegal_iff o b1 b2 k).1, fun _ k =>
    extInstr_ne (encode_illegal k)⟩
  simp only [decodeBytes_eq_illegal_iff, exists_opcode_eq_iff]

/-- Settles O4: the latch is filled only if it is empty, and the outcome writes PC, the latch and the report alone. -/
theorem illegalOpcodeOutcome : Obligations.IllegalOpcodeOutcome := by
  unfold Obligations.IllegalOpcodeOutcome
  intro k s
  refine ⟨illegal_encodes k, _, exec_illegal s k, fun h => ?_, fun x h => ?_, rfl, rfl, rfl⟩
  · simp [h]
  · simp [h]

end Sys2Proof
end

section
/-! SUPPORT. The step at the decoded instruction (R110 to R115, R327): the extended instructions by their opcode's fields, the
instruction at PC, and what a step costs. -/

namespace Sys2Proof.Machine

/-! ## The extended instructions by their fields (R101, R112) -/

/-- The extended row of an opcode by its fields: `x` = 0 rotate or shift, 1 BIT, 2 RES, 3 SET. -/
def extRow (o2 : Byte) : Instr :=
  match o2.toNat / 64 with
  | 0 => .shift (extShift o2) (extOperand o2)
  | 1 => .bit (extBit o2) (extOperand o2)
  | 2 => .res (extBit o2) (extOperand o2)
  | _ => .set (extBit o2) (extOperand o2)

theorem extInstr_eq_extRow (o2 : Byte) : extInstr o2 = extRow o2 := by
  revert o2; decide

theorem exec_extInstr (o2 : Byte) (s : State) : exec (extInstr o2) s = complete 2 (extCost o2) (extEffect o2) s := by
  rw [extInstr_eq_extRow, complete_eq]
  unfold extRow extEffect extCost
  generalize extOperand o2 = o
  generalize o2.toNat / 64 = x
  match x with
  | 0 => exact (exec_shift ..).trans (by cases o <;> rfl)
  | 1 => exact (exec_bit ..).trans (by cases o <;> rfl)
  | 2 => exact (exec_res ..).trans (by cases o <;> rfl)
  | _ + 3 => exact (exec_set ..).trans (by cases o <;> rfl)

/-- Settles O27: the entry's effect and cost are those of the extended row of the byte after it. -/
theorem prefixRunsTheExtendedInstruction : Obligations.PrefixRunsTheExtendedInstruction := by
  unfold Obligations.PrefixRunsTheExtendedInstruction
  exact fun s => ⟨(exec_extInstr _ s).symm, _, rfl⟩

/-! ## The step (R110, R111, R327) -/

/-- Settles O1: the three bytes at PC decode to the instruction the step runs. -/
theorem stepRunsTheDecodedInstruction : Obligations.StepRunsTheDecodedInstruction := by
  unfold Obligations.StepRunsTheDecodedInstruction
  intro s i rest hfault hh hdecode _
  have hi : s.nextInstr = i := decodeBytes_eq_of_decode hdecode
  rw [step_of_running (s.stuck_eq_false_iff.2 hfault) hh, hi]

/-- Settles O2: no latched fault stops the core, so it is the idle step, which only reports. -/
theorem haltedStepIdles : Obligations.HaltedStepIdles := by
  unfold Obligations.HaltedStepIdles
  exact fun s hfault hh => ⟨_, step_of_halted (s.stuck_eq_false_iff.2 (.inl hfault)) hh, ⟨rfl, rfl⟩, rfl⟩

/-! ## What a step costs (R114, R321, R336, R369) -/

theorem State.stuck_eq_true_iff (s : State) : s.stuck = true ↔ s.fault ≠ none ∧ s.params.illegalContinues = false := by
  rw [← Bool.not_eq_false, s.stuck_eq_false_iff, not_or, Bool.not_eq_true]

theorem exec_total (i : Instr) (s : State) : ∃ t, exec i s = .next t := by
  obtain ⟨len, cost, u, ht, -⟩ | ⟨k, -, ht⟩ := exec_answers i s
  · exact ⟨_, ht⟩
  · exact ⟨_, ht⟩

theorem step_total (s : State) : ∃ t, step s = .next t := by
  obtain ⟨-, ht⟩ | ⟨-, -, ht⟩ | ⟨-, -, ht⟩ := step_cases s
  · exact ⟨_, ht⟩
  · exact ⟨_, ht⟩
  · rw [ht]
    exact exec_total ..

/-- An illegal row reports -1, every other instruction 4 to 24 (R321, R369). -/
theorem exec_cost {i : Instr} {s t : State} (h : exec i s = .next t) :
    (t.result.cost = -1 ∧ ∃ k, i = .illegal k) ∨
    ((4 ≤ t.result.cost ∧ t.result.cost ≤ 24) ∧ ¬ ∃ k, i = .illegal k) := by
  obtain ⟨k, rfl, rfl⟩ | ⟨hne, len, cost, u, rfl, h4, h24, -⟩ := exec_next_cases h
  · exact .inl ⟨rfl, k, rfl⟩
  · have hcost : (u.report cost).result.cost = cost := rfl
    exact .inr ⟨by omega, not_exists.2 hne⟩

/-- Settles O6: the stuck step and an illegal row report -1, the idle step 4 and every other instruction 4 to 24. -/
theorem everyStepAnswersANextState : Obligations.EveryStepAnswersANextState := by
  unfold Obligations.EveryStepAnswersANextState
  intro s
  obtain ⟨t, ht⟩ := step_total s
  refine ⟨t, ht, ?_⟩
  rw [← s.stuck_eq_true_iff]
  obtain ⟨hs, rfl⟩ | ⟨hs, hh, rfl⟩ | ⟨hs, hh, he⟩ := step_next_cases ht
  · simp [hs]
  · simp [hs, hh]
  · obtain ⟨hcost, hill⟩ | ⟨⟨h4, h24⟩, hill⟩ := exec_cost he
    · simp [hcost, hh, hill]
    · have hne : t.result.cost ≠ -1 := by omega
      simp [hne, hs, hh, h4, h24, hill]

end Sys2Proof.Machine
end

section
/-! SUPPORT. The loads (41_loads.md, R130 to R149). What their effects change is said on the state they start from; the fetch
before an effect and the report after it are invisible to registers and memory, so it holds of the whole instruction. -/

namespace Sys2Proof.Machine

/-! ## Encodings (R90) -/

theorem encodes_of_encode {i : Instr} {bytes : List Byte} (hi : i.WellFormed) (h : encode i = bytes) :
    Encodes i bytes := by
  subst h
  exact ⟨rfl, decode_encode hi⟩

theorem ldRegReg_encodes (r r' : Reg8) : Encodes (.ldRegReg r r') [byte (0x40 + 8 * r.code + r'.code)] := by
  cases r <;> cases r' <;> exact encodes_of_encode rfl rfl

theorem ldRegIndHL_encodes (r : Reg8) : Encodes (.ldRegIndHL r) [byte (0x46 + 8 * r.code)] := by
  cases r <;> exact encodes_of_encode rfl rfl

theorem ldIndHLReg_encodes (r : Reg8) : Encodes (.ldIndHLReg r) [byte (0x70 + r.code)] := by
  cases r <;> exact encodes_of_encode rfl rfl

theorem ldImm_encodes (o : Operand8) (n : Byte) : Encodes (.ldImm o n) [byte (0x06 + 8 * o.code), n] := by
  rcases o with r | _
  · cases r <;> exact encodes_of_encode rfl rfl
  · exact encodes_of_encode rfl rfl

theorem ldPairImm_encodes (r : Reg16) (nn : Word) :
    Encodes (.ldPairImm r nn) [byte (0x01 + 16 * r.code), loByte nn, hiByte nn] := by
  cases r <;> exact encodes_of_encode rfl rfl

/-! ## The fetch and the report leave registers and memory as they are -/

section

variable (s t : State) (k : Nat)

@[simp] theorem sameRegs_fetched_iff (but : List Reg8) : SameRegs (s.fetched k) t but ↔ SameRegs s t but := by
  simp [SameRegs]

@[simp] theorem sameRegs_report_iff (but : List Reg8) : SameRegs s (t.report k) but ↔ SameRegs s t but := by
  simp [SameRegs]

@[simp] theorem sameMem_fetched_iff (but : List Word) : SameMem (s.fetched k) t but ↔ SameMem s t but := by
  simp [SameMem]

@[simp] theorem sameMem_report_iff (but : List Word) : SameMem s (t.report k) but ↔ SameMem s t but := by
  simp [SameMem]

@[simp] theorem operandBecomes_fetched_iff (o : Operand8) (v : Byte) :
    OperandBecomes (s.fetched k) t o v ↔ OperandBecomes s t o v := by
  cases o <;> simp [OperandBecomes]

@[simp] theorem operandBecomes_report_iff (o : Operand8) (v : Byte) :
    OperandBecomes s (t.report k) o v ↔ OperandBecomes s t o v := by
  cases o <;> simp [OperandBecomes]

@[simp] theorem reg16Becomes_fetched_iff (r : Reg16) (v : Word) :
    Reg16Becomes (s.fetched k) t r v ↔ Reg16Becomes s t r v := by
  cases r <;> simp [Reg16Becomes, PairBecomes]

@[simp] theorem reg16Becomes_report_iff (r : Reg16) (v : Word) :
    Reg16Becomes s (t.report k) r v ↔ Reg16Becomes s t r v := by
  cases r <;> simp [Reg16Becomes, PairBecomes]

@[simp] theorem pair_report (q : Pair) : (s.report k).pair q = s.pair q := by cases q <;> rfl

@[simp] theorem operand_fetched (o : Operand8) : (s.fetched k).operand o = s.operand o := by
  cases o <;> simp [State.operand]

end

/-! ## Frames of the state's writes, one after another -/

section

variable {s t u : State}

theorem SameMem.refl (s : State) : SameMem s s [] := fun _ _ => rfl

theorem SameRegs.trans {l l' : List Reg8} (h : SameRegs s t l) (h' : SameRegs t u l') : SameRegs s u (l ++ l') := by
  intro r hr
  rw [List.mem_append, not_or] at hr
  rw [h' r hr.2, h r hr.1]

theorem SameMem.trans {l l' : List Word} (h : SameMem s t l) (h' : SameMem t u l') : SameMem s u (l ++ l') := by
  intro x hx
  rw [List.mem_append, not_or] at hx
  rw [h' x hx.2, h x hx.1]

end

section

variable (s : State)

@[simp] theorem State.f_setOperand (o : Operand8) (v : Byte) : (s.setOperand o v).f = s.f := by
  cases o <;> simp [State.setOperand]

@[simp] theorem State.sp_setOperand (o : Operand8) (v : Byte) : (s.setOperand o v).sp = s.sp := by
  cases o <;> simp [State.setOperand]

@[simp] theorem State.f_setReg16 (r : Reg16) (v : Word) : (s.setReg16 r v).f = s.f := by
  cases r <;> rfl

theorem writeByte_sameRegs (x : Word) (v : Byte) : SameRegs s (s.writeByte x v) [] := fun _ _ => State.reg_writeByte ..

theorem writeByte_sameMem (x : Word) (v : Byte) : SameMem s (s.writeByte x v) [x] :=
  fun _ hy => State.readByte_writeByte_other _ _ _ _ (by simpa using hy)

theorem setReg_sameRegs (r : Reg8) (v : Byte) : SameRegs s (s.setReg r v) [r] :=
  fun _ hq => State.reg_setReg_other _ _ _ _ (by simpa using hq)

theorem setReg_sameMem (r : Reg8) (v : Byte) : SameMem s (s.setReg r v) [] := fun _ _ => State.readByte_setReg ..

theorem setPair_HL_sameRegs (v : Word) : SameRegs s (s.setPair .HL v) [.H, .L] := (setPair_becomes s .HL v).2.2

theorem setPair_sameMem (q : Pair) (v : Word) : SameMem s (s.setPair q v) [] := fun _ _ => State.readByte_setPair ..

@[simp] theorem pair_HL_setPair_HL (v : Word) : (s.setPair .HL v).pair .HL = v := wordOf_halves v

theorem setReg16_sameMem (r : Reg16) (v : Word) : SameMem s (s.setReg16 r v) [] := by
  cases r with
  | BC | DE | HL => exact setPair_sameMem s _ v
  | SP => exact .refl s

/-- Writing a pair or SP (R32, R93). -/
theorem setReg16_becomes (r : Reg16) (v : Word) : Reg16Becomes s (s.setReg16 r v) r v := by
  cases r with
  | BC => exact ⟨setPair_becomes s .BC v, rfl⟩
  | DE => exact ⟨setPair_becomes s .DE v, rfl⟩
  | HL => exact ⟨setPair_becomes s .HL v, rfl⟩
  | SP => exact ⟨rfl, fun q _ => State.reg_setSp ..⟩

/-- Writing a word to memory (R63): the two addresses differ, hold the two halves, and no other byte changed. -/
theorem writeWord_halves (x v : Word) :
    (s.writeWord x v).readByte x = loByte v ∧ (s.writeWord x v).readByte (x + 1) = hiByte v ∧
    SameMem s (s.writeWord x v) [x, x + 1] := by
  have hne : x ≠ x + 1 := by bv_omega
  refine ⟨?_, State.readByte_writeByte_same .., (writeByte_sameMem s _ _).trans (writeByte_sameMem _ _ _)⟩
  rw [State.writeWord, State.readByte_writeByte_other _ _ _ _ hne, State.readByte_writeByte_same]

end

/-! ## Loads of an operand (R130 to R134) -/

/-- An instruction whose effect is the write of one operand. -/
theorem complete_setOperand {s : State} {k cost : Nat} {effect : State → State} {o : Operand8} {v : Byte}
    (he : effect (s.fetched k) = (s.fetched k).setOperand o v) :
    ∃ t, complete k cost effect s = .next t ∧ OperandBecomes s t o v ∧ t.f = s.f ∧ t.sp = s.sp ∧ Proceeds s t k cost := by
  refine ⟨((s.fetched k).setOperand o v).report cost, by rw [complete_eq, he], ?_, by simp, by simp,
    proceeds_of_keepsFrame (setOperand_keepsFrame ..)⟩
  simpa using setOperand_becomes (s.fetched k) o v

theorem complete_copyOperand (k cost : Nat) (dst src : Operand8) (s : State) :
    ∃ t, complete k cost (copyOperand dst src) s = .next t ∧ OperandBecomes s t dst (s.operand src) ∧ t.f = s.f ∧
      t.sp = s.sp ∧ Proceeds s t k cost :=
  complete_setOperand (by rw [copyOperand, operand_fetched])

/-- Settles O28: the row copies one register operand to another. -/
theorem loadRegisterFromRegister : Obligations.LoadRegisterFromRegister := by
  unfold Obligations.LoadRegisterFromRegister
  intro r r' s
  obtain ⟨t, ht, ⟨hval, hregs, hmem⟩, hf, hsp, hnext⟩ := complete_copyOperand 1 4 (.reg r) (.reg r') s
  exact ⟨ldRegReg_encodes r r', t, (exec_ldRegReg ..).trans ht, hval, hregs, hf, hsp, hmem, hnext⟩

/-- Settles O29: the rows copy the byte at HL to a register operand and back. -/
theorem loadAndStoreThroughHL : Obligations.LoadAndStoreThroughHL := by
  unfold Obligations.LoadAndStoreThroughHL
  refine fun r s => ⟨⟨ldRegIndHL_encodes r, ?_⟩, ⟨ldIndHLReg_encodes r, ?_⟩⟩
  · obtain ⟨t, ht, ⟨hval, hregs, hmem⟩, hf, hsp, hnext⟩ := complete_copyOperand 1 8 (.reg r) .indHL s
    exact ⟨t, (exec_ldRegIndHL ..).trans ht, hval, hregs, hf, hsp, hmem, hnext⟩
  · obtain ⟨t, ht, ⟨hval, hregs, hmem⟩, hf, hsp, hnext⟩ := complete_copyOperand 1 8 .indHL (.reg r) s
    exact ⟨t, (exec_ldIndHLReg ..).trans ht, hval, hregs, hf, hsp, hmem, hnext⟩

/-- Settles O30: the rows write the immediate to their operand. -/
theorem loadImmediateByte : Obligations.LoadImmediateByte := by
  unfold Obligations.LoadImmediateByte
  intro o n s
  rw [exec_ldImm]
  exact ⟨ldImm_encodes o n, complete_setOperand rfl⟩

/-! ## Loads and stores of A at an address (R135 to R142) -/

theorem highPage_eq (n : Byte) : highPage n = 0xFF00 + n.setWidth 16 := by
  apply BitVec.eq_of_toNat_eq
  rw [highPage, wordOf_toNat, BitVec.toNat_add, BitVec.toNat_setWidth]
  have hbyte : (0xFF : Byte).toNat = 0xFF := rfl
  have hword : (0xFF00 : Word).toNat = 0xFF00 := rfl
  omega

theorem loadA_sameRegs (x : Word) (s : State) : SameRegs s (loadA x s) [.A] := setReg_sameRegs s .A _

theorem loadA_sameMem (x : Word) (s : State) : SameMem s (loadA x s) [] := setReg_sameMem s .A _

theorem storeA_sameRegs (x : Word) (s : State) : SameRegs s (storeA x s) [] := writeByte_sameRegs s x s.a

theorem storeA_sameMem (x : Word) (s : State) : SameMem s (storeA x s) [x] := writeByte_sameMem s x s.a

section

variable {i : Instr} {s : State} {x : Word} {k cost : Nat}

/-- An instruction whose effect on the fetched state is a load of A from the address `x`. -/
theorem exec_of_loadA (h : exec i s = .next ((loadA x (s.fetched k)).report cost)) :
    ∃ t, exec i s = .next t ∧ t.a = s.readByte x ∧ SameRegs s t [.A] ∧ t.f = s.f ∧ t.sp = s.sp ∧ SameMem s t [] ∧
      Proceeds s t k cost := by
  refine ⟨_, h, rfl, ?_, rfl, rfl, ?_, proceeds_of_keepsFrame (loadA_keepsFrame ..)⟩
  · simpa using loadA_sameRegs x (s.fetched k)
  · simpa using loadA_sameMem x (s.fetched k)

/-- An instruction whose effect on the fetched state is a store of A to the address `x`. -/
theorem exec_of_storeA (h : exec i s = .next ((storeA x (s.fetched k)).report cost)) :
    ∃ t, exec i s = .next t ∧ t.readByte x = s.a ∧ SameRegs s t [] ∧ t.f = s.f ∧ t.sp = s.sp ∧ SameMem s t [x] ∧
      Proceeds s t k cost := by
  refine ⟨_, h, by simp [storeA], ?_, rfl, rfl, ?_, proceeds_of_keepsFrame (storeA_keepsFrame ..)⟩
  · simpa using storeA_sameRegs x (s.fetched k)
  · simpa using storeA_sameMem x (s.fetched k)

end

/-- Settles O31: each row is a load of A from its address. -/
theorem loadAccumulatorFromMemory : Obligations.LoadAccumulatorFromMemory := by
  unfold Obligations.LoadAccumulatorFromMemory
  refine fun s n nn => ⟨encodes_of_encode rfl rfl, encodes_of_encode rfl rfl, encodes_of_encode rfl rfl,
    encodes_of_encode rfl rfl, encodes_of_encode rfl rfl, fun i x k cost hrow => ?_⟩
  simp only [← highPage_eq, List.mem_cons, List.not_mem_nil, or_false, Prod.mk.injEq] at hrow
  obtain ⟨rfl, rfl, rfl, rfl⟩ | ⟨rfl, rfl, rfl, rfl⟩ | ⟨rfl, rfl, rfl, rfl⟩ | ⟨rfl, rfl, rfl, rfl⟩ |
    ⟨rfl, rfl, rfl, rfl⟩ := hrow
  all_goals exact exec_of_loadA rfl

/-- Settles O32: each row is a store of A to its address. -/
theorem storeAccumulatorToMemory : Obligations.StoreAccumulatorToMemory := by
  unfold Obligations.StoreAccumulatorToMemory
  refine fun s n nn => ⟨encodes_of_encode rfl rfl, encodes_of_encode rfl rfl, encodes_of_encode rfl rfl,
    encodes_of_encode rfl rfl, encodes_of_encode rfl rfl, fun i x k cost hrow => ?_⟩
  simp only [← highPage_eq, List.mem_cons, List.not_mem_nil, or_false, Prod.mk.injEq] at hrow
  obtain ⟨rfl, rfl, rfl, rfl⟩ | ⟨rfl, rfl, rfl, rfl⟩ | ⟨rfl, rfl, rfl, rfl⟩ | ⟨rfl, rfl, rfl, rfl⟩ |
    ⟨rfl, rfl, rfl, rfl⟩ := hrow
  all_goals exact exec_of_storeA rfl

/-! ## Loads and stores of A that move HL (R143 to R146) -/

/-- Moving a word by a signed distance wraps at its ends. -/
theorem toNat_add_ofInt (x : Word) (d : Int) : ((x + BitVec.ofInt 16 d).toNat : Int) = (x.toNat + d) % 65536 := by
  rw [BitVec.toNat_add, BitVec.toNat_ofInt]
  omega

section

variable (delta : Word) (s : State)

theorem pair_HL_loadAMoveHL : (loadAMoveHL delta s).pair .HL = s.hl + delta := pair_HL_setPair_HL _ _

theorem pair_HL_storeAMoveHL : (storeAMoveHL delta s).pair .HL = s.hl + delta := pair_HL_setPair_HL _ _

theorem loadAMoveHL_sameRegs : SameRegs s (loadAMoveHL delta s) [.A, .H, .L] :=
  (setReg_sameRegs s .A _).trans (setPair_HL_sameRegs _ _)

theorem loadAMoveHL_sameMem : SameMem s (loadAMoveHL delta s) [] :=
  (setReg_sameMem s .A _).trans (setPair_sameMem _ .HL _)

theorem storeAMoveHL_sameRegs : SameRegs s (storeAMoveHL delta s) [.H, .L] :=
  (writeByte_sameRegs s _ _).trans (setPair_HL_sameRegs _ _)

theorem storeAMoveHL_sameMem : SameMem s (storeAMoveHL delta s) [s.pair .HL] :=
  (writeByte_sameMem s _ _).trans (setPair_sameMem _ .HL _)

end

section

variable {i : Instr} {s : State} {d : Int}

/-- An instruction that loads A from the byte at HL and moves HL by the distance `d`. -/
theorem exec_of_loadAMoveHL (h : exec i s = complete 1 8 (loadAMoveHL (BitVec.ofInt 16 d)) s) :
    ∃ t, exec i s = .next t ∧ t.a = s.readByte (s.pair .HL) ∧
      ((t.pair .HL).toNat : Int) = ((s.pair .HL).toNat + d) % 65536 ∧ SameRegs s t [.A, .H, .L] ∧ t.f = s.f ∧
      t.sp = s.sp ∧ SameMem s t [] ∧ Proceeds s t 1 8 := by
  refine ⟨_, h.trans (complete_eq ..), rfl, ?_, ?_, rfl, rfl, ?_, proceeds_of_keepsFrame (loadAMoveHL_keepsFrame ..)⟩
  · rw [pair_report, pair_HL_loadAMoveHL]
    exact toNat_add_ofInt s.hl d
  · simpa using loadAMoveHL_sameRegs (BitVec.ofInt 16 d) (s.fetched 1)
  · simpa using loadAMoveHL_sameMem (BitVec.ofInt 16 d) (s.fetched 1)

/-- An instruction that stores A to the byte at HL and moves HL by the distance `d`. -/
theorem exec_of_storeAMoveHL (h : exec i s = complete 1 8 (storeAMoveHL (BitVec.ofInt 16 d)) s) :
    ∃ t, exec i s = .next t ∧ t.readByte (s.pair .HL) = s.a ∧
      ((t.pair .HL).toNat : Int) = ((s.pair .HL).toNat + d) % 65536 ∧ SameRegs s t [.H, .L] ∧ t.f = s.f ∧
      t.sp = s.sp ∧ SameMem s t [s.pair .HL] ∧ Proceeds s t 1 8 := by
  refine ⟨_, h.trans (complete_eq ..), State.readByte_writeByte_same .., ?_, ?_, rfl, rfl, ?_,
    proceeds_of_keepsFrame (storeAMoveHL_keepsFrame ..)⟩
  · rw [pair_report, pair_HL_storeAMoveHL]
    exact toNat_add_ofInt s.hl d
  · simpa using storeAMoveHL_sameRegs (BitVec.ofInt 16 d) (s.fetched 1)
  · simpa using storeAMoveHL_sameMem (BitVec.ofInt 16 d) (s.fetched 1)

end

/-- Settles O33: each row is the load or the store with its distance. -/
theorem loadAndStoreMovingHL : Obligations.LoadAndStoreMovingHL := by
  unfold Obligations.LoadAndStoreMovingHL
  refine fun s => ⟨encodes_of_encode rfl rfl, encodes_of_encode rfl rfl, encodes_of_encode rfl rfl,
    encodes_of_encode rfl rfl, fun i d hrow => ?_, fun i d hrow => ?_⟩
  all_goals
    simp only [List.mem_cons, List.not_mem_nil, or_false, Prod.mk.injEq] at hrow
    obtain ⟨rfl, rfl⟩ | ⟨rfl, rfl⟩ := hrow
  · exact exec_of_loadAMoveHL rfl
  · exact exec_of_loadAMoveHL rfl
  · exact exec_of_storeAMoveHL rfl
  · exact exec_of_storeAMoveHL rfl

/-! ## 16-bit loads (R147 to R149) -/

/-- Settles O34: the first rows write a pair or SP, the last one SP alone. -/
theorem loadSixteenBitRegister : Obligations.LoadSixteenBitRegister := by
  unfold Obligations.LoadSixteenBitRegister
  refine ⟨fun r nn s => ⟨ldPairImm_encodes r nn, _, exec_ldPairImm .., ?_, ?_, ?_, ?_⟩,
    fun s => ⟨encodes_of_encode rfl rfl, _, rfl, rfl, ?_, rfl, ?_, proceeds_of_keepsFrame (copyHLToSp_keepsFrame _)⟩⟩
  · simpa [loadPair] using setReg16_becomes (s.fetched 3) r nn
  · simp [loadPair]
  · simpa [loadPair] using setReg16_sameMem (s.fetched 3) r nn
  · exact proceeds_of_keepsFrame (loadPair_keepsFrame ..)
  · simp [SameRegs, copyHLToSp]
  · simp [SameMem, copyHLToSp]

/-- Settles O35: the row writes the word SP to memory. -/
theorem storeStackPointer : Obligations.StoreStackPointer := by
  unfold Obligations.StoreStackPointer
  intro nn s
  obtain ⟨hlo, hhi, hmem⟩ := writeWord_halves (s.fetched 3) nn s.sp
  refine ⟨encodes_of_encode rfl rfl, _, rfl, ?_, ?_, ?_, rfl, rfl, ?_, proceeds_of_keepsFrame (storeSp_keepsFrame ..)⟩
  · exact (congrArg BitVec.toNat hlo).trans (loByte_toNat _)
  · exact (congrArg BitVec.toNat hhi).trans (hiByte_toNat _)
  · simp [SameRegs, storeSp]
  · simpa [storeSp] using hmem

end Sys2Proof.Machine
end

section
/-! SUPPORT. The 8-bit arithmetic (42_alu8.md, R170 to R187). Each instruction writes its result to one operand and its four
flags to F, or the flags alone; what that changes is said once, and the results are put in numbers. -/

namespace Sys2Proof.Machine

/-! ## Encodings (R171, R180 to R183) -/

theorem alu_encodes (op : AluOp) (src : AluSource) : Encodes (.alu op src) (aluBytes op src) := by
  rcases src with r | _ | n
  · cases op <;> cases r <;> exact encodes_of_encode rfl rfl
  · cases op <;> exact encodes_of_encode rfl rfl
  · cases op <;> exact encodes_of_encode rfl rfl

theorem inc8_encodes (o : Operand8) : Encodes (.inc8 o) [byte (0x04 + 8 * o.code)] := by
  rcases o with r | _
  · cases r <;> exact encodes_of_encode rfl rfl
  · exact encodes_of_encode rfl rfl

theorem dec8_encodes (o : Operand8) : Encodes (.dec8 o) [byte (0x05 + 8 * o.code)] := by
  rcases o with r | _
  · cases r <;> exact encodes_of_encode rfl rfl
  · exact encodes_of_encode rfl rfl

/-! ## What an instruction that writes the flags leaves -/

section

variable (s t : State) (z n hc c : Bool)

@[simp] theorem flagsAre_report_iff (k : Nat) : FlagsAre (t.report k) z n hc c ↔ FlagsAre t z n hc c := Iff.rfl

@[simp] theorem sameRegs_setFlags_iff (but : List Reg8) : SameRegs s (t.setFlags z n hc c) but ↔ SameRegs s t but := by
  simp [SameRegs]

@[simp] theorem sameMem_setFlags_iff (but : List Word) : SameMem s (t.setFlags z n hc c) but ↔ SameMem s t but := by
  simp [SameMem]

@[simp] theorem operandBecomes_setFlags_iff (o : Operand8) (v : Byte) :
    OperandBecomes s (t.setFlags z n hc c) o v ↔ OperandBecomes s t o v := by
  cases o <;> simp [OperandBecomes]

end

section

variable {i : Instr} {s : State} {k cost : Nat} {effect : State → State} {o : Operand8} {v : Byte} {z n hc c : Bool}

/-- An instruction whose effect on the fetched state is the write of one operand and of the flags. -/
theorem exec_of_setOperand_setFlags (h : exec i s = complete k cost effect s)
    (he : effect (s.fetched k) = ((s.fetched k).setOperand o v).setFlags z n hc c) :
    ∃ t, exec i s = .next t ∧ OperandBecomes s t o v ∧ FlagsAre t z n hc c ∧ t.sp = s.sp ∧ Proceeds s t k cost := by
  rw [complete_eq, he] at h
  refine ⟨_, h, ?_, setFlags_flagsAre ((s.fetched k).setOperand o v) .., State.sp_setOperand ..,
    proceeds_of_keepsFrame ((setOperand_keepsFrame ..).setFlags ..)⟩
  simpa using setOperand_becomes (s.fetched k) o v

/-- An instruction whose effect on the fetched state is the write of A and of the flags. -/
theorem exec_of_setA_setFlags (h : exec i s = complete k cost effect s)
    (he : effect (s.fetched k) = ((s.fetched k).setReg .A v).setFlags z n hc c) :
    ∃ t, exec i s = .next t ∧ t.a = v ∧ FlagsAre t z n hc c ∧ SameRegs s t [.A] ∧ t.sp = s.sp ∧ SameMem s t [] ∧
      Proceeds s t k cost := by
  obtain ⟨t, ht, ⟨ha, hregs, hmem⟩, hflags, hsp, hnext⟩ := exec_of_setOperand_setFlags (o := .reg .A) h he
  exact ⟨t, ht, ha, hflags, hregs, hsp, hmem, hnext⟩

/-- An instruction whose effect on the fetched state is the write of the flags alone. -/
theorem exec_of_setFlags (h : exec i s = complete k cost effect s)
    (he : effect (s.fetched k) = (s.fetched k).setFlags z n hc c) :
    ∃ t, exec i s = .next t ∧ FlagsAre t z n hc c ∧ SameRegs s t [] ∧ t.sp = s.sp ∧ SameMem s t [] ∧
      Proceeds s t k cost := by
  rw [complete_eq, he] at h
  refine ⟨_, h, setFlags_flagsAre (s.fetched k) .., ?_, rfl, ?_, proceeds_of_keepsFrame ?_⟩
  · simp [SameRegs]
  · simp [SameMem]
  · simp [KeepsFrame]

end

/-! ## The accumulator operations (R170 to R179) -/

section

variable (src : AluSource) (s : State)

/-- Every accumulator operation but CP writes its result to A and its flags to F. -/
theorem accumulate_of_ne_cp {op : AluOp} (hop : op ≠ .cp) :
    let r := aluResult op s.a (s.aluSource src) s.flagC
    accumulate op src s = (s.setReg .A r.value).setFlags r.z r.n r.h r.c := by
  cases op with
  | cp => exact absurd rfl hop
  | add | adc | sub | sbc | and | xor | or => rfl

/-- Every accumulator operation but CP, as an instruction. -/
theorem exec_alu_writesA {op : AluOp} (hop : op ≠ .cp) :
    let r := aluResult op s.a (s.aluSource src) s.flagC
    ∃ t, exec (.alu op src) s = .next t ∧ t.a = r.value ∧ FlagsAre t r.z r.n r.h r.c ∧ SameRegs s t [.A] ∧
      t.sp = s.sp ∧ SameMem s t [] ∧ Proceeds s t (aluLength src) (aluCost src) := by
  refine exec_of_setA_setFlags (exec_alu ..) ?_
  rw [accumulate_of_ne_cp _ _ hop, aluSource_fetched]
  rfl

/-- CP, as an instruction: the flags of the difference and no byte. -/
theorem exec_cp_writesFlags :
    let r := sub8 s.a (s.aluSource src) false
    ∃ t, exec (.alu .cp src) s = .next t ∧ FlagsAre t r.z r.n r.h r.c ∧ SameRegs s t [] ∧ t.sp = s.sp ∧
      SameMem s t [] ∧ Proceeds s t (aluLength src) (aluCost src) := by
  refine exec_of_setFlags (exec_alu ..) ?_
  rw [← aluSource_fetched s (aluLength src)]
  rfl

end

section

variable (withCarry : Bool) (a v : Byte) (cin : Bool)

theorem aluResult_add_or_adc :
    aluResult (if withCarry then .adc else .add) a v cin = add8 a v (withCarry && cin) := by
  cases withCarry <;> rfl

theorem aluResult_sub_or_sbc :
    aluResult (if withCarry then .sbc else .sub) a v cin = sub8 a v (withCarry && cin) := by
  cases withCarry <;> rfl

theorem carryIn_toNat : (if withCarry then cin.toNat else 0) = (withCarry && cin).toNat := by
  cases withCarry <;> rfl

theorem decide_eq_zero : decide (v = 0) = decide (v.toNat = 0) :=
  decide_eq_decide.2 BitVec.toNat_eq

/-- Z of a difference is Z of the byte it leaves. -/
theorem sub8_z : (sub8 a v cin).z = decide ((sub8 a v cin).value.toNat = 0) := by
  have hvalue := sub8_value a v cin
  exact decide_eq_decide.2 (by omega)

/-- A difference of two bytes without a borrow is zero exactly when they are equal. -/
theorem sub8_z_noBorrow : (sub8 a v false).z = decide (a = v) := by
  refine decide_eq_decide.2 ?_
  rw [BitVec.toNat_eq, Bool.toNat_false]
  omega

end

/-- The bitwise operations combine their operands bit by bit, and Z, N, H and C do not depend on the carry (R176 to R178). -/
theorem aluResult_logic {op : AluOp} {f : Bool → Bool → Bool}
    (hop : (op, f) ∈ [(AluOp.and, and), (AluOp.xor, xor), (AluOp.or, or)]) (a v : Byte) (cin : Bool) :
    let r := aluResult op a v cin
    (∀ k < 8, r.value.getLsbD k = f (a.getLsbD k) (v.getLsbD k)) ∧
      r.z = decide (r.value.toNat = 0) ∧ r.n = false ∧ r.h = decide (op = .and) ∧ r.c = false := by
  simp only [List.mem_cons, List.not_mem_nil, or_false, Prod.mk.injEq] at hop
  obtain ⟨rfl, rfl⟩ | ⟨rfl, rfl⟩ | ⟨rfl, rfl⟩ := hop
  · exact ⟨fun _ _ => BitVec.getLsbD_and, decide_eq_zero _, rfl, rfl, rfl⟩
  · exact ⟨fun _ _ => BitVec.getLsbD_xor, decide_eq_zero _, rfl, rfl, rfl⟩
  · exact ⟨fun _ _ => BitVec.getLsbD_or, decide_eq_zero _, rfl, rfl, rfl⟩

/-- Settles O36: both rows leave the sum with the carry that goes in. -/
theorem addAndAddWithCarry : Obligations.AddAndAddWithCarry := by
  unfold Obligations.AddAndAddWithCarry
  intro withCarry src s
  have hop : (if withCarry then AluOp.adc else .add) ≠ .cp := by cases withCarry <;> decide
  obtain ⟨t, ht, ha, hflags, hrest⟩ := exec_alu_writesA src s hop
  rw [aluResult_add_or_adc] at ha hflags
  rw [add8_h, add8_c] at hflags
  refine ⟨alu_encodes _ src, t, ht, ?_, ?_, hrest⟩
  · rw [ha, add8_value, carryIn_toNat]
  · rw [carryIn_toNat]
    exact hflags

/-- Settles O37: both rows leave the difference with the borrow that goes in. -/
theorem subtractAndSubtractWithBorrow : Obligations.SubtractAndSubtractWithBorrow := by
  unfold Obligations.SubtractAndSubtractWithBorrow
  intro withCarry src s
  have hop : (if withCarry then AluOp.sbc else .sub) ≠ .cp := by cases withCarry <;> decide
  obtain ⟨t, ht, ha, hflags, hrest⟩ := exec_alu_writesA src s hop
  rw [aluResult_sub_or_sbc] at ha hflags
  rw [sub8_z, ← ha, sub8_h, sub8_c] at hflags
  refine ⟨alu_encodes _ src, t, ht, ?_, ?_, hrest⟩
  · rw [ha, sub8_value, carryIn_toNat]
  · rw [carryIn_toNat]
    exact hflags

/-- Settles O38: each row leaves its bitwise combination. -/
theorem bitwiseLogic : Obligations.BitwiseLogic := by
  unfold Obligations.BitwiseLogic
  intro op f src s hlogic
  have hop : op ≠ .cp := by rintro rfl; simp at hlogic
  obtain ⟨hbits, hz, hn, hh, hc⟩ := aluResult_logic hlogic s.a (s.aluSource src) s.flagC
  obtain ⟨t, ht, ha, hflags, hrest⟩ := exec_alu_writesA src s hop
  rw [hz, hn, hh, hc, ← ha] at hflags
  rw [← ha] at hbits
  exact ⟨alu_encodes op src, t, ht, hbits, hflags, hrest⟩

/-- Settles O39: the row writes the flags of the difference alone. -/
theorem compareSetsFlagsOnly : Obligations.CompareSetsFlagsOnly := by
  unfold Obligations.CompareSetsFlagsOnly
  intro src s
  obtain ⟨t, ht, hflags, hrest⟩ := exec_cp_writesFlags src s
  rw [sub8_z_noBorrow, sub8_h, sub8_c] at hflags
  exact ⟨alu_encodes .cp src, t, ht, hflags, hrest⟩

/-! ## INC and DEC of a byte (R180 to R183) -/

theorem decide_lowNibble_eq (v w : Byte) : decide (v &&& 0x0F = w) = decide (v.toNat % 16 = w.toNat) := by
  refine decide_eq_decide.2 ?_
  rw [BitVec.toNat_eq, lowNibble_toNat]

section

variable (v : Byte) (c : Bool)

theorem incResult_value : (incResult v c).value.toNat = (v.toNat + 1) % 256 := BitVec.toNat_add v 1

theorem incResult_z : (incResult v c).z = decide ((incResult v c).value.toNat = 0) := decide_eq_zero _

theorem incResult_h : (incResult v c).h = decide (v.toNat % 16 = 15) := decide_lowNibble_eq v 0x0F

theorem decResult_value : ((decResult v c).value.toNat : Int) = (v.toNat - 1 : Int) % 256 := by
  have hone : (1 : Byte).toNat = 1 := rfl
  rw [decResult, BitVec.toNat_sub]
  omega

theorem decResult_z : (decResult v c).z = decide ((decResult v c).value.toNat = 0) := decide_eq_zero _

theorem decResult_h : (decResult v c).h = decide (v.toNat % 16 = 0) := decide_lowNibble_eq v 0x00

end

/-- Settles O40: the row leaves its operand with one added. -/
theorem incrementByte : Obligations.IncrementByte := by
  unfold Obligations.IncrementByte
  intro o s
  obtain ⟨t, ht, hval, hflags, hrest⟩ := exec_of_setOperand_setFlags (exec_inc8 s o) rfl
  rw [operand_fetched] at hval hflags
  rw [incResult_z, incResult_h] at hflags
  exact ⟨inc8_encodes o, t, _, ht, incResult_value .., hval, hflags, hrest⟩

/-- Settles O41: the row leaves its operand with one taken away. -/
theorem decrementByte : Obligations.DecrementByte := by
  unfold Obligations.DecrementByte
  intro o s
  obtain ⟨t, ht, hval, hflags, hrest⟩ := exec_of_setOperand_setFlags (exec_dec8 s o) rfl
  rw [operand_fetched] at hval hflags
  rw [decResult_z, decResult_h] at hflags
  exact ⟨dec8_encodes o, t, _, ht, decResult_value .., hval, hflags, hrest⟩

/-! ## DAA, CPL, SCF and CCF (R184 to R187) -/

/-- The decimal adjust adds its two corrections after an addition and takes them away after a subtraction (R184). -/
theorem daaAdjust_corrects (a : Byte) (n h c : Bool) :
    let high := if n then c else c || decide (a.toNat > 0x99)
    let low := if n then h else h || decide (a.toNat % 16 > 9)
    let k : Int := (if high then 0x60 else 0) + (if low then 0x06 else 0)
    (daaAdjust a n h c).2 = high ∧
      ((daaAdjust a n h c).1.toNat : Int) = (a.toNat + (if n then -k else k)) % 256 := by
  cases n with
  | false =>
    obtain ⟨hcarry, hvalue⟩ := daaAdjust_afterAdd a h c
    refine ⟨hcarry, ?_⟩
    simp [hvalue, add_assoc]
  | true =>
    obtain ⟨hcarry, hvalue⟩ := daaAdjust_afterSub a h c
    refine ⟨hcarry, ?_⟩
    simp [hvalue, sub_eq_add_neg, add_assoc, add_comm]

/-- Settles O42: the adjusted byte and carry are those of the addition or of the subtraction before it. -/
theorem decimalAdjustCorrects : Obligations.DecimalAdjustCorrects := by
  unfold Obligations.DecimalAdjustCorrects
  intro s high low k
  obtain ⟨hcarry, hvalue⟩ : (daaAdjust s.a s.flagN s.flagH s.flagC).2 = high ∧ _ := daaAdjust_corrects ..
  obtain ⟨t, ht, ha, hflags, hrest⟩ := exec_of_setA_setFlags (i := .daa) (s := s) rfl rfl
  refine ⟨encodes_of_encode rfl rfl, t, ht, (congrArg (fun v : Byte => (v.toNat : Int)) ha).trans hvalue, ?_, hrest⟩
  rw [← decide_eq_zero, ha, ← hcarry]
  exact hflags

theorem complement_toNat (v : Byte) : (v ^^^ 0xFF).toNat = 255 - v.toNat :=
  (congrArg BitVec.toNat (BitVec.xor_allOnes (x := v))).trans BitVec.toNat_not

/-- Settles O44: each row writes the flags, CPL the complement of A too. -/
theorem complementAndCarryFlag : Obligations.ComplementAndCarryFlag := by
  unfold Obligations.ComplementAndCarryFlag
  refine fun s => ⟨⟨encodes_of_encode rfl rfl, ?_⟩, ⟨encodes_of_encode rfl rfl, exec_of_setFlags rfl rfl⟩,
    ⟨encodes_of_encode rfl rfl, exec_of_setFlags rfl rfl⟩⟩
  obtain ⟨t, ht, ha, hrest⟩ := exec_of_setA_setFlags (i := .cpl) (s := s) rfl rfl
  exact ⟨t, ht, (congrArg BitVec.toNat ha).trans (complement_toNat _), hrest⟩

end Sys2Proof.Machine
end

section
/-! SUPPORT. The 16-bit arithmetic (43_alu16.md, R200 to R205). Each instruction writes a pair or SP, and F or no flag; what
that changes is said once, and the sums and carries are put in numbers. -/

namespace Sys2Proof.Machine

/-! ## Encodings (R201, R204, R205) -/

theorem addHL_encodes (r : Reg16) : Encodes (.addHL r) [byte (0x09 + 16 * r.code)] := by
  cases r <;> exact encodes_of_encode rfl rfl

theorem inc16_encodes (r : Reg16) : Encodes (.inc16 r) [byte (0x03 + 16 * r.code)] := by
  cases r <;> exact encodes_of_encode rfl rfl

theorem dec16_encodes (r : Reg16) : Encodes (.dec16 r) [byte (0x0B + 16 * r.code)] := by
  cases r <;> exact encodes_of_encode rfl rfl

/-! ## What an instruction that writes a pair or SP leaves -/

@[simp] theorem reg16_fetched (s : State) (k : Nat) (r : Reg16) : (s.fetched k).reg16 r = s.reg16 r := by
  cases r <;> rfl

section

variable {i : Instr} {s : State} {k cost : Nat} {effect : State → State} {r : Reg16} {v : Word} {z n hc c : Bool}

/-- An instruction whose effect on the fetched state is the write of HL and of the flags. -/
theorem exec_of_setHL_setFlags (h : exec i s = complete k cost effect s)
    (he : effect (s.fetched k) = ((s.fetched k).setPair .HL v).setFlags z n hc c) :
    ∃ t, exec i s = .next t ∧ t.pair .HL = v ∧ FlagsAre t z n hc c ∧ SameRegs s t [.H, .L] ∧ t.sp = s.sp ∧
      SameMem s t [] ∧ Proceeds s t k cost := by
  rw [complete_eq, he] at h
  refine ⟨_, h, pair_HL_setPair_HL (s.fetched k) v, setFlags_flagsAre ((s.fetched k).setPair .HL v) .., ?_, rfl, ?_,
    proceeds_of_keepsFrame ((setReg16_keepsFrame _ .HL v).setFlags ..)⟩
  · simpa using setPair_HL_sameRegs (s.fetched k) v
  · simpa using setPair_sameMem (s.fetched k) .HL v

/-- An instruction whose effect on the fetched state is the write of SP and of the flags. -/
theorem exec_of_setSp_setFlags (h : exec i s = complete k cost effect s)
    (he : effect (s.fetched k) = ((s.fetched k).setSp v).setFlags z n hc c) :
    ∃ t, exec i s = .next t ∧ t.sp = v ∧ FlagsAre t z n hc c ∧ SameRegs s t [] ∧ SameMem s t [] ∧
      Proceeds s t k cost := by
  rw [complete_eq, he] at h
  refine ⟨_, h, rfl, setFlags_flagsAre ((s.fetched k).setSp v) .., ?_, ?_,
    proceeds_of_keepsFrame ((setReg16_keepsFrame _ .SP v).setFlags ..)⟩
  · simp [SameRegs]
  · simp [SameMem]

/-- An instruction whose effect on the fetched state is the write of a pair or SP alone. -/
theorem exec_of_setReg16 (h : exec i s = complete k cost effect s)
    (he : effect (s.fetched k) = (s.fetched k).setReg16 r v) :
    ∃ t, exec i s = .next t ∧ Reg16Becomes s t r v ∧ t.f = s.f ∧ SameMem s t [] ∧ Proceeds s t k cost := by
  rw [complete_eq, he] at h
  refine ⟨_, h, ?_, State.f_setReg16 (s.fetched k) r v, ?_, proceeds_of_keepsFrame (setReg16_keepsFrame ..)⟩
  · simpa using setReg16_becomes (s.fetched k) r v
  · simpa using setReg16_sameMem (s.fetched k) r v

end

/-! ## The sums and their carries in numbers (R200, R201, R205) -/

/-- The low `k` bits of a word as a number. -/
theorem and_lowBits_toNat (x : Word) {k : Nat} (hk : k ≤ 16) :
    (x &&& BitVec.ofNat 16 (2 ^ k - 1)).toNat = x.toNat % 2 ^ k := by
  have hlt : 2 ^ k - 1 < 2 ^ 16 :=
    Nat.sub_one_lt_of_le (Nat.two_pow_pos k) (pow_le_pow_right₀ one_le_two hk)
  rw [BitVec.toNat_and, BitVec.toNat_ofNat, Nat.mod_eq_of_lt hlt, Nat.and_two_pow_sub_one_eq_mod]

theorem toNat_sub_one (x : Word) : ((x - 1).toNat : Int) = (x.toNat - 1 : Int) % 65536 := by
  have hsub : x - 1 = x + BitVec.ofInt 16 (-1) := BitVec.sub_eq_add_neg x 1
  rw [hsub, toNat_add_ofInt, Int.sub_eq_add_neg]

section

variable (sp : Word) (e : Byte)

theorem spPlusE_sum : ((spPlusE sp e).1.toNat : Int) = (sp.toNat + e.toInt) % 65536 := toNat_add_ofInt sp e.toInt

theorem spPlusE_h : (spPlusE sp e).2.1 = decide (sp.toNat % 16 + e.toNat % 16 > 15) := by
  have hsp : (sp &&& 0x000F).toNat = sp.toNat % 16 := and_lowBits_toNat sp (k := 4) (by decide)
  simp only [spPlusE, hsp, lowNibble_toNat]

theorem spPlusE_c : (spPlusE sp e).2.2 = decide (sp.toNat % 256 + e.toNat > 255) := by
  have hsp : (sp &&& 0x00FF).toNat = sp.toNat % 256 := and_lowBits_toNat sp (k := 8) (by decide)
  simp only [spPlusE, hsp]

end

/-- Settles O45: the row leaves the sum in HL, H and C the carries out of its low 12 and its 16 bits. -/
theorem addPairToHL : Obligations.AddPairToHL := by
  unfold Obligations.AddPairToHL
  intro r s
  obtain ⟨t, ht, hsum, hflags, hrest⟩ := exec_of_setHL_setFlags (exec_addHL s r) rfl
  have hlow (x : Word) : (x &&& 0x0FFF).toNat = x.toNat % 4096 := and_lowBits_toNat x (k := 12) (by decide)
  rw [reg16_fetched] at hsum hflags
  rw [hlow, hlow] at hflags
  refine ⟨addHL_encodes r, t, ht, ?_, hflags, hrest⟩
  rw [hsum]
  exact BitVec.toNat_add (s.pair .HL) (s.reg16 r)

/-- Settles O46: both rows leave what the SP adder gives, one in SP and one in HL. -/
theorem stackPointerPlusDisplacement : Obligations.StackPointerPlusDisplacement := by
  unfold Obligations.StackPointerPlusDisplacement
  intro e s sum h c
  have hsum : ((spPlusE s.sp e).1.toNat : Int) = sum := spPlusE_sum s.sp e
  have hh : (spPlusE s.sp e).2.1 = h := spPlusE_h s.sp e
  have hc : (spPlusE s.sp e).2.2 = c := spPlusE_c s.sp e
  rw [← hsum, ← hh, ← hc]
  constructor
  · obtain ⟨t, ht, hsp, hrest⟩ := exec_of_setSp_setFlags (i := .add_SP_e e) (s := s) rfl rfl
    exact ⟨encodes_of_encode rfl rfl, t, ht, congrArg (fun v : Word => (v.toNat : Int)) hsp, hrest⟩
  · obtain ⟨t, ht, hhl, hrest⟩ := exec_of_setHL_setFlags (i := .ld_HL_SPplus_e e) (s := s) rfl rfl
    exact ⟨encodes_of_encode rfl rfl, t, ht, congrArg (fun v : Word => (v.toNat : Int)) hhl, hrest⟩

/-- Settles O47: both rows write the pair or SP alone, with one added or taken away. -/
theorem incrementAndDecrementPair : Obligations.IncrementAndDecrementPair := by
  unfold Obligations.IncrementAndDecrementPair
  intro r s
  constructor
  · obtain ⟨t, ht, hval, hrest⟩ := exec_of_setReg16 (exec_inc16 s r) rfl
    rw [reg16_fetched] at hval
    exact ⟨inc16_encodes r, t, _, ht, BitVec.toNat_add (s.reg16 r) 1, hval, hrest⟩
  · obtain ⟨t, ht, hval, hrest⟩ := exec_of_setReg16 (exec_dec16 s r) rfl
    rw [reg16_fetched] at hval
    exact ⟨dec16_encodes r, t, _, ht, toNat_sub_one (s.reg16 r), hval, hrest⟩

end Sys2Proof.Machine
end

section
/-! SUPPORT. The rotates and shifts (44_rotate_shift.md, R220 to R232). The bits that move and the bit that leaves are put
in numbers once for the eight operations; the accumulator rotates take four of them. -/

namespace Sys2Proof.Machine

/-! ## Encodings (R220 to R224) -/

/-- The opcode of an accumulator rotate (R220 to R223). -/
def accRotateOpcode : AccRotate → Nat
  | .rlca => 0x07 | .rrca => 0x0F | .rla => 0x17 | .rra => 0x1F

theorem accRotate_encodes (op : AccRotate) : Encodes (.accRotate op) [byte (accRotateOpcode op)] := by
  cases op <;> exact encodes_of_encode rfl rfl

theorem shift_encodes (op : ShiftOp) (o : Operand8) : Encodes (.shift op o) [0xCB, byte (8 * op.code + o.code)] := by
  rcases o with r | _
  · cases op <;> cases r <;> exact encodes_of_encode rfl rfl
  · cases op <;> exact encodes_of_encode rfl rfl

/-! ## The moved bits in numbers -/

/-- The disjunction of a byte whose low `k` bits are zero and a byte below them is their sum. -/
theorem toNat_or_of_lowBits {hi lo : Byte} {k n : Nat} (hhi : hi.toNat = 2 ^ k * n) (hlo : lo.toNat < 2 ^ k) :
    (hi ||| lo).toNat = hi.toNat + lo.toNat := by
  rw [BitVec.toNat_or, hhi, ← Nat.two_pow_add_eq_or_of_lt hlo]

section

variable (v : Byte) (b : Bool)

theorem bit0_toNat : (bit0 b).toNat = b.toNat := by cases b <;> rfl

theorem bit0_shiftLeft_toNat : (bit0 b <<< 7).toNat = 128 * b.toNat := by cases b <;> rfl

theorem getLsbD_seven_eq_decide : v.getLsbD 7 = decide (v.toNat / 128 = 1) := by
  rw [← BitVec.testBit_toNat, Nat.testBit_eq_decide_div_mod_eq, decide_eq_decide]
  omega

theorem getLsbD_seven_toNat : (v.getLsbD 7).toNat = v.toNat / 128 := by
  rw [← BitVec.testBit_toNat, Nat.toNat_testBit]
  omega

theorem getLsbD_zero_eq_decide : v.getLsbD 0 = decide (v.toNat % 2 = 1) := by
  rw [← BitVec.testBit_toNat, Nat.testBit_zero]

theorem getLsbD_zero_toNat : (v.getLsbD 0).toNat = v.toNat % 2 := by
  rw [← BitVec.testBit_toNat, Nat.toNat_testBit, pow_zero, Nat.div_one]

theorem shiftLeft_one_toNat : (v <<< 1).toNat = 2 * v.toNat % 256 := by
  rw [BitVec.toNat_shiftLeft, Nat.shiftLeft_eq, mul_comm]

theorem shiftRight_toNat (k : Nat) : (v >>> k).toNat = v.toNat / 2 ^ k := by
  rw [BitVec.toNat_ushiftRight, Nat.shiftRight_eq_div_pow]

variable {b} {n : Nat}

/-- A shift to the left with the bit `b` moved in at bit 0. -/
theorem shiftLeft_or_bit_toNat (hb : b.toNat = n) : (v <<< 1 ||| bit0 b).toNat = 2 * v.toNat % 256 + n := by
  have hhi : (v <<< 1).toNat = 2 ^ 1 * (v.toNat % 128) := by
    rw [shiftLeft_one_toNat]
    omega
  have hlo : (bit0 b).toNat < 2 ^ 1 := by cases b <;> decide
  rw [toNat_or_of_lowBits hhi hlo, shiftLeft_one_toNat, bit0_toNat, hb]

/-- A shift to the right with the bit `b` moved in at bit 7. -/
theorem shiftRight_or_bit_toNat (hb : b.toNat = n) :
    (v >>> 1 ||| bit0 b <<< 7).toNat = v.toNat / 2 + 128 * n := by
  have hlo : (v >>> 1).toNat < 2 ^ 7 := by
    rw [shiftRight_toNat]
    omega
  rw [BitVec.or_comm, toNat_or_of_lowBits (bit0_shiftLeft_toNat b) hlo, shiftRight_toNat, bit0_shiftLeft_toNat, hb,
    add_comm, pow_one]

/-- Bit 7 alone is that bit moved into bit 7. -/
theorem and_bit7 : v &&& (0x80 : Byte) = bit0 (v.getLsbD 7) <<< 7 := by
  apply BitVec.eq_of_toNat_eq
  rw [bit0_shiftLeft_toNat, BitVec.toNat_and, ← BitVec.testBit_toNat]
  exact (Nat.and_two_pow v.toNat 7).trans (mul_comm ..)

/-- A shift to the right that keeps bit 7. -/
theorem shiftRight_or_bit7_toNat : (v >>> 1 ||| (v &&& 0x80)).toNat = v.toNat / 2 + 128 * (v.toNat / 128) := by
  rw [and_bit7]
  exact shiftRight_or_bit_toNat v (getLsbD_seven_toNat v)

theorem swapNibbles_toNat : ((v &&& 0x0F) <<< 4 ||| v >>> 4).toNat = 16 * (v.toNat % 16) + v.toNat / 16 := by
  have hhi : ((v &&& 0x0F) <<< 4).toNat = 16 * (v.toNat % 16) := by
    rw [BitVec.toNat_shiftLeft, Nat.shiftLeft_eq, lowNibble_toNat]
    omega
  have hlo : (v >>> 4).toNat = v.toNat / 16 := shiftRight_toNat v 4
  rw [toNat_or_of_lowBits (k := 4) hhi (by omega), hhi, hlo]

end

/-! ## The results and the carries in numbers (R220 to R232) -/

/-- The number an extended rotate or shift makes of the number `v`, with the prior carry `cin`. -/
def shiftNumber (op : ShiftOp) (v : Nat) (cin : Bool) : Nat :=
  match op with
  | .rlc => 2 * v % 256 + v / 128
  | .rrc => v / 2 + 128 * (v % 2)
  | .rl => 2 * v % 256 + cin.toNat
  | .rr => v / 2 + 128 * cin.toNat
  | .sla => 2 * v % 256
  | .sra => v / 2 + 128 * (v / 128)
  | .swap => 16 * (v % 16) + v / 16
  | .srl => v / 2

/-- The bit of the number `v` that leaves it: bit 7 to the left, bit 0 to the right, none for SWAP. -/
def shiftedOut (op : ShiftOp) (v : Nat) : Bool :=
  match op with
  | .rlc | .rl | .sla => decide (v / 128 = 1)
  | .rrc | .rr | .sra | .srl => decide (v % 2 = 1)
  | .swap => false

theorem shiftResult_toNat (op : ShiftOp) (v : Byte) (cin : Bool) :
    (shiftResult op v cin).1.toNat = shiftNumber op v.toNat cin := by
  cases op with
  | rlc => exact shiftLeft_or_bit_toNat v (getLsbD_seven_toNat v)
  | rrc => exact shiftRight_or_bit_toNat v (getLsbD_zero_toNat v)
  | rl => exact shiftLeft_or_bit_toNat v rfl
  | rr => exact shiftRight_or_bit_toNat v rfl
  | sla => exact shiftLeft_one_toNat v
  | sra => exact shiftRight_or_bit7_toNat v
  | swap => exact swapNibbles_toNat v
  | srl => exact shiftRight_toNat v 1

theorem shiftResult_carry (op : ShiftOp) (v : Byte) (cin : Bool) :
    (shiftResult op v cin).2 = shiftedOut op v.toNat := by
  cases op with
  | rlc | rl | sla => exact getLsbD_seven_eq_decide v
  | rrc | rr | sra | srl => exact getLsbD_zero_eq_decide v
  | swap => rfl

/-! ## What the instructions leave (R220 to R232) -/

/-- An accumulator rotate, in numbers. -/
theorem exec_accRotate_number (op : AccRotate) (s : State) :
    ∃ t, exec (.accRotate op) s = .next t ∧ t.a.toNat = shiftNumber (accShift op) s.a.toNat s.flagC ∧
      FlagsAre t false false false (shiftedOut (accShift op) s.a.toNat) ∧ SameRegs s t [.A] ∧ t.sp = s.sp ∧
      SameMem s t [] ∧ Proceeds s t 1 4 := by
  obtain ⟨t, ht, ha, hflags, hrest⟩ := exec_of_setA_setFlags (exec_accRotate s op) rfl
  refine ⟨t, ht, (congrArg BitVec.toNat ha).trans (shiftResult_toNat ..), ?_, hrest⟩
  rw [← shiftResult_carry _ _ s.flagC]
  exact hflags

/-- An extended rotate or shift, in numbers. -/
theorem exec_shift_number (op : ShiftOp) (o : Operand8) (s : State) :
    let w := shiftNumber op (s.operand o).toNat s.flagC
    ∃ t, exec (.shift op o) s = .next t ∧ OperandBecomes s t o (byte w) ∧
      FlagsAre t (decide (w = 0)) false false (shiftedOut op (s.operand o).toNat) ∧ t.sp = s.sp ∧
      Proceeds s t 2 (operandCost 8 16 o) := by
  obtain ⟨t, ht, hval, hflags, hrest⟩ := exec_of_setOperand_setFlags (exec_shift s op o) rfl
  rw [operand_fetched, State.flagC_fetched] at hval hflags
  rw [decide_eq_zero, shiftResult_toNat, shiftResult_carry] at hflags
  refine ⟨t, ht, ?_, hflags, hrest⟩
  rw [← shiftResult_toNat, byte, BitVec.ofNat_toNat, BitVec.setWidth_eq]
  exact hval

/-- Settles O48: each row leaves A rotated and the bit that left it. -/
theorem accumulatorRotates : Obligations.AccumulatorRotates := by
  unfold Obligations.AccumulatorRotates
  intro op s
  have hencodes := accRotate_encodes op
  have hexec := exec_accRotate_number op s
  cases op with
  | rlca | rrca | rla | rra => exact ⟨hencodes, hexec⟩

/-- Settles O49: the four rotates are the first four of the extended operations. -/
theorem rotatesOfAnOperand : Obligations.RotatesOfAnOperand := by
  unfold Obligations.RotatesOfAnOperand
  intro op o s hop
  have hencodes := shift_encodes op o
  have hexec := exec_shift_number op o s
  cases op with
  | rlc | rrc | rl | rr => exact ⟨hencodes, hexec⟩
  | sla | sra | swap | srl => exact absurd hop (by decide)

/-- Settles O50: the three shifts and SWAP are the last four of the extended operations. -/
theorem shiftsAndSwapOfAnOperand : Obligations.ShiftsAndSwapOfAnOperand := by
  unfold Obligations.ShiftsAndSwapOfAnOperand
  intro op o s hop
  have hencodes := shift_encodes op o
  have hexec := exec_shift_number op o s
  cases op with
  | sla | sra | swap | srl => exact ⟨hencodes, hexec⟩
  | rlc | rrc | rl | rr => exact absurd hop (by decide)

end Sys2Proof.Machine
end

section
/-! SUPPORT. The bit instructions (45_bit.md, R224, R250 to R252). Their opcodes are read by the fields of the extended
table; the mask of one bit is said bit by bit. -/

namespace Sys2Proof.Machine

/-! ## Encodings (R101, R224) -/

theorem extInstr_encodes (o2 : Byte) : Encodes (extInstr o2) [0xCB, o2] :=
  encodes_of_encode ((wellFormed_iff _).2 (extInstr_ne rfl)) (encode_extInstr o2)

theorem operand8_code_lt (o : Operand8) : o.code < 8 := by
  rcases o with r | _
  · cases r <;> decide
  · decide

/-- The `z` field of an extended opcode is its operand's code (R92). -/
theorem extOperand_of_code {o2 : Byte} {o : Operand8} (h : o2.toNat % 8 = o.code) : extOperand o2 = o := by
  rw [extOperand, h]
  rcases o with r | _
  · cases r <;> rfl
  · rfl

/-- The extended opcode put together from the fields `x`, `y` and `z` has the row of these fields (R101). -/
theorem extOpcode_fields {x : Nat} (hx : x < 4) (b : Fin 8) (o : Operand8) :
    let o2 := byte (64 * x + 8 * b.val + o.code)
    o2.toNat / 64 = x ∧ extBit o2 = b ∧ extOperand o2 = o := by
  intro o2
  have hz := operand8_code_lt o
  have ho2 : o2.toNat = 64 * x + 8 * b.val + o.code := (BitVec.toNat_ofNat ..).trans (Nat.mod_eq_of_lt (by omega))
  have hy : o2.toNat / 8 % 8 = b.val := by omega
  exact ⟨by omega, Fin.ext hy, extOperand_of_code (by omega)⟩

/-- A row that the extended table has at `x` is encoded by `x`, its bit and its operand (R98, R101). -/
theorem encodes_of_extInstr {x : Nat} {row : Fin 8 → Operand8 → Instr} (hx : x < 4)
    (hrow : ∀ o2, o2.toNat / 64 = x → extInstr o2 = row (extBit o2) (extOperand o2)) (b : Fin 8) (o : Operand8) :
    Encodes (row b o) [0xCB, byte (64 * x + 8 * b.val + o.code)] := by
  obtain ⟨hx', hb, ho⟩ := extOpcode_fields hx b o
  have h := extInstr_encodes (byte (64 * x + 8 * b.val + o.code))
  rwa [hrow _ hx', hb, ho] at h

theorem bit_encodes : ∀ (b : Fin 8) (o : Operand8), Encodes (.bit b o) [0xCB, byte (0x40 + 8 * b.val + o.code)] :=
  encodes_of_extInstr (x := 1) (by decide) fun o2 h => by simp only [extInstr_eq_extRow, extRow, h]

theorem res_encodes : ∀ (b : Fin 8) (o : Operand8), Encodes (.res b o) [0xCB, byte (0x80 + 8 * b.val + o.code)] :=
  encodes_of_extInstr (x := 2) (by decide) fun o2 h => by simp only [extInstr_eq_extRow, extRow, h]

theorem set_encodes : ∀ (b : Fin 8) (o : Operand8), Encodes (.set b o) [0xCB, byte (0xC0 + 8 * b.val + o.code)] :=
  encodes_of_extInstr (x := 3) (by decide) fun o2 h => by simp only [extInstr_eq_extRow, extRow, h]

/-! ## One bit of a byte -/

section

variable (v : Byte) (b k : Nat)

theorem not_getLsbD_eq_decide : (!v.getLsbD b) = decide (v.toNat / 2 ^ b % 2 = 0) := by
  rw [← BitVec.testBit_toNat, Nat.testBit_eq_decide_div_mod_eq, ← decide_not, decide_eq_decide]
  omega

variable {k} (hk : k < 8)
include hk

theorem getLsbD_mask : (1#8 <<< b).getLsbD k = decide (k = b) := by
  rw [← BitVec.twoPow_eq, BitVec.getLsbD_twoPow, ← Bool.decide_and, decide_eq_decide]
  omega

theorem getLsbD_and_not_mask : (v &&& ~~~(1#8 <<< b)).getLsbD k = if k = b then false else v.getLsbD k := by
  rw [BitVec.getLsbD_and, BitVec.getLsbD_not, getLsbD_mask b hk]
  split <;> simp [*]

theorem getLsbD_or_mask : (v ||| 1#8 <<< b).getLsbD k = if k = b then true else v.getLsbD k := by
  rw [BitVec.getLsbD_or, getLsbD_mask b hk]
  split <;> simp [*]

end

/-! ## What the instructions leave (R250 to R252) -/

/-- Settles O51: the row writes the flags alone, Z from the bit it tests. -/
theorem bitTestsOneBit : Obligations.BitTestsOneBit := by
  unfold Obligations.BitTestsOneBit
  intro b o s
  obtain ⟨t, ht, hflags, hrest⟩ := exec_of_setFlags (exec_bit s b o) rfl
  rw [operand_fetched, State.flagC_fetched, not_getLsbD_eq_decide] at hflags
  exact ⟨bit_encodes b o, t, ht, hflags, hrest⟩

/-- Settles O52: both rows write their operand alone, SET with the bit's mask put in, RES with it taken out. -/
theorem resetAndSetOneBit : Obligations.ResetAndSetOneBit := by
  unfold Obligations.ResetAndSetOneBit
  intro value b o s
  cases value with
  | false =>
    obtain ⟨t, ht, hval, hrest⟩ := complete_setOperand (effect := resetBit b o) (cost := operandCost 8 16 o) rfl
    rw [operand_fetched] at hval
    exact ⟨res_encodes b o, t, _, (exec_res s b o).trans ht, fun _ hk => getLsbD_and_not_mask _ _ hk, hval, hrest⟩
  | true =>
    obtain ⟨t, ht, hval, hrest⟩ := complete_setOperand (effect := setBit b o) (cost := operandCost 8 16 o) rfl
    rw [operand_fetched] at hval
    exact ⟨set_encodes b o, t, _, (exec_set s b o).trans ht, fun _ hk => getLsbD_or_mask _ _ hk, hval, hrest⟩

end Sys2Proof.Machine
end

section
/-! SUPPORT. Control transfer (46_control.md, R260 to R271) and the stack round trips. A jump writes PC alone, taken or not;
a call pushes PC past its bytes; a return pops PC. What each leaves is said once, over the rows' effects. -/

namespace Sys2Proof.Machine

/-! ## Encodings (R262, R265, R267, R269, R271) -/

theorem jpCond_encodes (cc : Cond) (nn : Word) :
    Encodes (.jpCond cc nn) [byte (0xC2 + 8 * cc.code), loByte nn, hiByte nn] := by
  cases cc <;> exact encodes_of_encode rfl rfl

theorem jrCond_encodes (cc : Cond) (e : Byte) : Encodes (.jrCond cc e) [byte (0x20 + 8 * cc.code), e] := by
  cases cc <;> exact encodes_of_encode rfl rfl

theorem callCond_encodes (cc : Cond) (nn : Word) :
    Encodes (.callCond cc nn) [byte (0xC4 + 8 * cc.code), loByte nn, hiByte nn] := by
  cases cc <;> exact encodes_of_encode rfl rfl

theorem retCond_encodes (cc : Cond) : Encodes (.retCond cc) [byte (0xC0 + 8 * cc.code)] := by
  cases cc <;> exact encodes_of_encode rfl rfl

theorem rst_encodes (y : Fin 8) : Encodes (.rst y) [byte (0xC7 + 8 * y.val)] := by
  fin_cases y <;> exact encodes_of_encode rfl rfl

/-! ## What a control transfer changes -/

section

variable (s : State)

theorem setPc_sameRegs (v : Word) : SameRegs s (s.setPc v) [] := fun _ _ => State.reg_setPc ..

theorem call_sameRegs (v : Word) : SameRegs s (call v s) [] := fun _ _ => by simp [call]

theorem ret_sameRegs : SameRegs s (ret s) [] := fun _ _ => by simp [ret]

theorem call_pushed (v : Word) : Pushed s (call v s) s.pc :=
  (push16_pushed s s.pc).congr rfl rfl rfl rfl

theorem stackTop_toNat : s.stackTop.toNat = 256 * (s.readByte (s.sp + 1)).toNat + (s.readByte s.sp).toNat :=
  wordOf_toNat ..

end

section

variable {s t : State} {v : Word}

/-- `Pushed` speaks of SP and memory alone, which the fetch and the report leave. -/
theorem Pushed.of_fetched_report {k cost : Nat} (h : Pushed (s.fetched k) t v) : Pushed s (t.report cost) v :=
  h.congr rfl rfl rfl rfl

/-- The word on top after a push is the word pushed (R290, R291). -/
theorem Pushed.stackTop (h : Pushed s t v) : t.stackTop = v := by
  obtain ⟨hhi, hlo, -, hsp⟩ := h
  have hnext : t.sp + 1 = s.sp - 1 := by rw [hsp]; bv_omega
  rw [State.stackTop, hnext, hhi, hsp, hlo, wordOf_halves]

/-- A pop after a push leaves SP where it was. -/
theorem Pushed.sp_add_two (h : Pushed s t v) : t.sp + 2 = s.sp := by
  obtain ⟨-, -, -, hsp⟩ := h
  rw [hsp, BitVec.sub_add_cancel]

end

/-! ## What an effect reports and leaves of the control state (R114, R324, R331) -/

section

variable {side : Side} {s u : State} {k : Nat} (h : EffectFacts side (s.fetched k) u) (cost : Nat)
include h

theorem EffectFacts.reports : Reports s (u.report cost) cost side.ime := by
  simp [Reports, h.ime, h.cycleCount, h.params, StepResult.none]

theorem EffectFacts.sameControl (hside : side ≠ .halts) : SameControl s (u.report cost) := by
  simp [SameControl, h.halted, h.fault, h.params, hside]

end

/-! ## What a control transfer leaves (R260 to R271) -/

section

variable {i : Instr} {s : State} {k cost : Nat} {effect : State → State} {v : Word}

/-- An instruction whose effect on the fetched state is the write of PC alone. -/
theorem exec_of_setPc (h : exec i s = complete k cost effect s) (he : effect (s.fetched k) = (s.fetched k).setPc v) :
    ∃ t, exec i s = .next t ∧ t.pc = v ∧ Reports s t cost none ∧ SameRegs s t [] ∧ t.f = s.f ∧ t.sp = s.sp ∧
      SameMem s t [] ∧ SameControl s t := by
  have hfacts := jump_facts v (s.fetched k)
  rw [complete_eq, he] at h
  refine ⟨_, h, rfl, hfacts.reports cost, ?_, rfl, rfl, fun _ _ => rfl, hfacts.sameControl cost (by decide)⟩
  simpa using setPc_sameRegs (s.fetched k) v

/-- A conditional jump: not taken it leaves PC past its bytes (R260). -/
theorem exec_of_setPc_if {taken : Bool} {costNot : Nat} (h : exec i s = completeIf taken k cost costNot effect s)
    (he : effect (s.fetched k) = (s.fetched k).setPc v) :
    ∃ t, exec i s = .next t ∧ t.pc = (if taken then v else s.pc + BitVec.ofNat 16 k) ∧
      Reports s t (if taken then cost else costNot) none ∧ SameRegs s t [] ∧ t.f = s.f ∧ t.sp = s.sp ∧
      SameMem s t [] ∧ SameControl s t := by
  cases taken with
  | false => exact exec_of_setPc (h.trans (completeIf_notTaken ..)) rfl
  | true => exact exec_of_setPc (h.trans (completeIf_taken ..)) he

/-- An instruction whose effect is a call of the address `v`. -/
theorem exec_of_call (h : exec i s = complete k cost (call v) s) :
    ∃ t, exec i s = .next t ∧ Pushed s t (s.pc + BitVec.ofNat 16 k) ∧ t.pc = v ∧ Reports s t cost none ∧
      SameRegs s t [] ∧ t.f = s.f ∧ SameControl s t := by
  have hfacts := call_facts v (s.fetched k)
  refine ⟨_, h.trans (complete_eq ..), (call_pushed (s.fetched k) v).of_fetched_report, rfl, hfacts.reports cost, ?_,
    by simp [call], hfacts.sameControl cost (by decide)⟩
  simpa using call_sameRegs (s.fetched k) v

/-- An instruction whose effect is a return that emits the request `ime`, or none (R268, R270). -/
theorem exec_of_ret {ime : Option ImeRequest} (h : exec i s = complete k cost effect s)
    (he : effect (s.fetched k) = { ret (s.fetched k) with result := ⟨0, ime⟩ }) :
    ∃ t, exec i s = .next t ∧ t.pc = s.stackTop ∧ t.sp = s.sp + 2 ∧ Reports s t cost ime ∧ SameRegs s t [] ∧
      t.f = s.f ∧ SameMem s t [] ∧ SameControl s t := by
  have hregs : SameRegs (s.fetched k) { ret (s.fetched k) with result := ⟨0, ime⟩ } [] := ret_sameRegs (s.fetched k)
  rw [complete_eq, he] at h
  refine ⟨_, h, rfl, rfl, ⟨rfl, rfl⟩, ?_, rfl, fun _ _ => rfl, rfl, rfl, rfl⟩
  simpa using hregs

end

/-! ## Jumps (R261 to R265) -/

/-- Settles O53: each row writes PC alone. -/
theorem jumpsGoToTheirTarget : Obligations.JumpsGoToTheirTarget := by
  unfold Obligations.JumpsGoToTheirTarget
  exact fun cc nn s => ⟨⟨rfl, rfl, rfl, rfl⟩, ⟨encodes_of_encode rfl rfl, exec_of_setPc rfl rfl⟩,
    ⟨encodes_of_encode rfl rfl, exec_of_setPc rfl rfl⟩, jpCond_encodes cc nn, exec_of_setPc_if (exec_jpCond ..) rfl⟩

/-- Moving past the two bytes of a JR and then by its displacement is one sum (R264). -/
theorem jumpRelative_target (pc : Word) (e : Byte) :
    ((pc + 2 + sext16 e).toNat : Int) = (pc.toNat + 2 + e.toInt) % 65536 := by
  have hsum : ((pc + 2 + sext16 e).toNat : Int) = ((pc + 2).toNat + e.toInt) % 65536 := toNat_add_ofInt (pc + 2) e.toInt
  have hnext : (pc + 2).toNat = (pc.toNat + 2) % 65536 := BitVec.toNat_add pc 2
  omega

/-- Settles O54: both rows write PC alone, the conditional one when its condition holds. -/
theorem relativeJumps : Obligations.RelativeJumps := by
  unfold Obligations.RelativeJumps
  intro cc e s target
  have htarget : ((s.pc + 2 + sext16 e).toNat : Int) = target := jumpRelative_target s.pc e
  constructor
  · obtain ⟨t, ht, hpc, hrest⟩ := exec_of_setPc (i := .jr_e e) (s := s) rfl rfl
    refine ⟨encodes_of_encode rfl rfl, t, ht, ?_, hrest⟩
    rw [hpc]
    exact htarget
  · obtain ⟨t, ht, hpc, hrest⟩ := exec_of_setPc_if (exec_jrCond s cc e) rfl
    refine ⟨jrCond_encodes cc e, t, ht, ?_, hrest⟩
    rw [hpc]
    split
    · exact htarget
    · exact congrArg Nat.cast (BitVec.toNat_add s.pc 2)

/-! ## Calls and returns (R266 to R271) -/

/-- Settles O55: each row is a call, but for the CALL whose condition fails. -/
theorem callsPushTheReturnAddress : Obligations.CallsPushTheReturnAddress := by
  unfold Obligations.CallsPushTheReturnAddress
  refine fun cc y nn s => ⟨⟨encodes_of_encode rfl rfl, exec_of_call rfl⟩, ⟨callCond_encodes cc nn, ?_⟩,
    rst_encodes y, ?_⟩
  · have h := exec_callCond s cc nn
    generalize s.cond cc = taken at h ⊢
    cases taken with
    | true =>
      obtain ⟨t, ht, hpush, hpc, hreports, hregs, hf, hcontrol⟩ := exec_of_call (h.trans (completeIf_taken ..))
      exact ⟨t, ht, hregs, hf, hcontrol, (if_pos rfl).mpr ⟨hpush, hpc, hreports⟩⟩
    | false =>
      obtain ⟨t, ht, hpc, hreports, hregs, hf, hsp, hmem, hcontrol⟩ :=
        exec_of_setPc (h.trans (completeIf_notTaken ..)) rfl
      exact ⟨t, ht, hregs, hf, hcontrol, (if_neg Bool.false_ne_true).mpr ⟨hmem, hsp, hpc, hreports⟩⟩
  · obtain ⟨t, ht, hpush, hpc, hrest⟩ := exec_of_call (exec_rst s y)
    refine ⟨t, ht, hpush, ?_, hrest⟩
    rw [hpc, BitVec.toNat_ofNat]
    omega

/-- Settles O56: each row is a return, RETI with a request, but for the RET whose condition fails. -/
theorem returnsPopTheirTarget : Obligations.ReturnsPopTheirTarget := by
  unfold Obligations.ReturnsPopTheirTarget
  intro cc s target
  have htarget : s.stackTop.toNat = target := stackTop_toNat s
  refine ⟨⟨encodes_of_encode rfl rfl, ?_⟩, ⟨encodes_of_encode rfl rfl, ?_⟩, retCond_encodes cc, ?_⟩
  · obtain ⟨t, ht, hpc, hrest⟩ := exec_of_ret (i := .ret) (s := s) rfl rfl
    exact ⟨t, ht, (congrArg BitVec.toNat hpc).trans htarget, hrest⟩
  · obtain ⟨t, ht, hpc, hrest⟩ := exec_of_ret (i := .reti) (s := s) rfl rfl
    exact ⟨t, ht, (congrArg BitVec.toNat hpc).trans htarget, hrest⟩
  · have h := exec_retCond s cc
    generalize s.cond cc = taken at h ⊢
    cases taken with
    | true =>
      obtain ⟨t, ht, hpc, hsp, hreports, hregs, hf, hmem, hcontrol⟩ :=
        exec_of_ret (h.trans (completeIf_taken ..)) rfl
      exact ⟨t, ht, hregs, hf, hmem, hcontrol,
        (if_pos rfl).mpr ⟨(congrArg BitVec.toNat hpc).trans htarget, hsp, hreports⟩⟩
    | false =>
      obtain ⟨t, ht, hpc, hreports, hregs, hf, hsp, hmem, hcontrol⟩ :=
        exec_of_setPc (h.trans (completeIf_notTaken ..)) rfl
      exact ⟨t, ht, hregs, hf, hmem, hcontrol, (if_neg Bool.false_ne_true).mpr ⟨hpc, hsp, hreports⟩⟩

/-! ## The round trips (R266, R268, R292 to R294) -/

/-- A word without the low nibble of its low byte. -/
theorem wordOf_masked (hi lo : Byte) : wordOf hi (lo &&& 0xF0) = wordOf hi lo &&& 0xFFF0 := by
  have hhi : hi &&& 0xFF = hi := BitVec.and_allOnes
  calc wordOf hi (lo &&& 0xF0) = wordOf (hi &&& 0xFF) (lo &&& 0xF0) := by rw [hhi]
    _ = wordOf hi lo &&& 0xFFF0 := BitVec.and_append.symm

section

variable {q : Pair} {s t : State}

/-- PUSH pushes the pair (R292). -/
theorem exec_push_pushed (h : exec (.push q) s = .next t) : Pushed s t (s.pair q) := by
  rw [exec_push, complete_eq, Host.Outcome.next.injEq] at h
  rw [← h, ← pair_fetched s 1]
  exact (push16_pushed (s.fetched 1) _).of_fetched_report

/-- POP writes the word on top to the pair, AF without F's low nibble (R293, R294). -/
theorem exec_pop_pair (h : exec (.pop q) s = .next t) :
    t.sp = s.sp + 2 ∧ (q ≠ .AF → t.pair q = s.stackTop) ∧ (q = .AF → t.pair q = s.stackTop &&& 0xFFF0) := by
  rw [exec_pop, complete_eq, Host.Outcome.next.injEq] at h
  rw [← h, pair_report]
  refine ⟨by simp [popPair], fun hq => ?_, ?_⟩
  · cases q with
    | AF => exact absurd rfl hq
    | BC | DE | HL => exact wordOf_halves s.stackTop
  · rintro rfl
    calc (popPair .AF (s.fetched 1)).pair .AF = wordOf (hiByte s.stackTop) (loByte s.stackTop &&& 0xF0) := rfl
      _ = s.stackTop &&& 0xFFF0 := by rw [wordOf_masked, wordOf_halves]

end

/-- Settles O58: the word the second step pops is the word the first one pushed. -/
theorem stackRoundTrips : Obligations.StackRoundTrips := by
  unfold Obligations.StackRoundTrips
  refine ⟨fun nn s t u ht hu => ?_, fun q q' s t u ht hu => ?_⟩
  · obtain ⟨t', ht', hpush, -, -, hregs, hf, -⟩ := exec_of_call (i := .call_nn nn) (s := s) rfl
    obtain rfl : t' = t := Host.Outcome.next.inj (ht'.symm.trans ht)
    obtain ⟨u', hu', hpc, hsp, -, hregs', hf', -⟩ := exec_of_ret (i := .ret) (s := t') rfl rfl
    obtain rfl : u' = u := Host.Outcome.next.inj (hu'.symm.trans hu)
    exact ⟨hpc.trans hpush.stackTop, hsp.trans hpush.sp_add_two, hregs.trans hregs', hf'.trans hf⟩
  · have hpush := exec_push_pushed ht
    obtain ⟨hsp, hpair, hAF⟩ := exec_pop_pair hu
    rw [hpush.stackTop] at hpair hAF
    exact ⟨hsp.trans hpush.sp_add_two, hpair, hAF⟩

end Sys2Proof.Machine
end

section
/-! SUPPORT. The stack (47_stack.md, R290 to R294): what Push16 leaves beside the two slots it writes, and what PUSH and
POP of a pair do over the fetched state. -/

namespace Sys2Proof.Machine

/-! ## Push16 and Pop16 (R290, R291) -/

theorem push16_sameRegs (s : State) (v : Word) : SameRegs s (s.push16 v) [] := fun _ _ => State.reg_push16 ..

/-- Settles O22: the two slots hold the halves of the word, which a pop puts together again. -/
theorem pushAndPopSixteenBits : Obligations.PushAndPopSixteenBits := by
  unfold Obligations.PushAndPopSixteenBits
  intro s v
  have hpush := push16_pushed s v
  exact ⟨hpush, push16_sameRegs s v, State.f_push16 .., stackTop_toNat s, rfl, rfl, hpush.stackTop, hpush.sp_add_two⟩

/-! ## PUSH and POP of a pair (R292 to R294) -/

theorem push_encodes (q : Pair) : Encodes (.push q) [byte (0xC5 + 16 * q.code)] := by
  cases q <;> exact encodes_of_encode rfl rfl

theorem pop_encodes (q : Pair) : Encodes (.pop q) [byte (0xC1 + 16 * q.code)] := by
  cases q <;> exact encodes_of_encode rfl rfl

/-- Only AF holds F, so a write of another pair leaves F (R32). -/
theorem f_setPair_of_ne_AF {q : Pair} (hq : q ≠ .AF) (s : State) (v : Word) : (s.setPair q v).f = s.f := by
  obtain ⟨-, -, hset, -⟩ := pairsAreViewsOfTheCells
  obtain ⟨-, hf, -⟩ := hset s q v
  exact hf hq

/-- `PairBecomes` speaks of registers alone, which the fetch and the report leave. -/
theorem PairBecomes.of_fetched_report {q : Pair} {s t : State} {v : Word} {k cost : Nat}
    (h : PairBecomes (s.fetched k) t q v) : PairBecomes s (t.report cost) q v := by
  cases q <;> simpa [PairBecomes] using h

section

variable (q : Pair) (s : State)

theorem pushPair_sameRegs : SameRegs s (pushPair q s) [] := push16_sameRegs s (s.pair q)

/-- The pop moves SP and writes the pair: every other register is as before. -/
theorem popPair_becomes : PairBecomes s (popPair q s) q s.stackTop := setPair_becomes s.dropTop q s.stackTop

theorem popPair_sameMem : SameMem s (popPair q s) [] := setPair_sameMem s.dropTop q s.stackTop

/-- PUSH stores the pair and writes no register (R292). -/
theorem exec_push_spec : ∃ t, exec (.push q) s = .next t ∧ Pushed s t (s.pair q) ∧ SameRegs s t [] ∧ t.f = s.f ∧
    Proceeds s t 1 16 := by
  have h : exec (.push q) s = .next ((pushPair q (s.fetched 1)).report 16) :=
    (exec_push s q).trans (complete_eq ..)
  have hregs := pushPair_sameRegs q (s.fetched 1)
  exact ⟨_, h, exec_push_pushed h, by simpa using hregs, by simp [pushPair],
    proceeds_of_keepsFrame (pushPair_keepsFrame ..)⟩

/-- POP loads the pair from the top of the stack and writes no memory (R293, R294). -/
theorem exec_pop_spec : ∃ t, exec (.pop q) s = .next t ∧ PairBecomes s t q s.stackTop ∧ (q ≠ .AF → t.f = s.f) ∧
    t.sp = s.sp + 2 ∧ SameMem s t [] ∧ Proceeds s t 1 12 := by
  have h : exec (.pop q) s = .next ((popPair q (s.fetched 1)).report 12) :=
    (exec_pop s q).trans (complete_eq ..)
  obtain ⟨hsp, -, -⟩ := exec_pop_pair h
  have hmem := popPair_sameMem q (s.fetched 1)
  exact ⟨_, h, (popPair_becomes q (s.fetched 1)).of_fetched_report,
    fun hq => f_setPair_of_ne_AF hq (s.fetched 1).dropTop _, hsp, by simpa using hmem,
    proceeds_of_keepsFrame (popPair_keepsFrame ..)⟩

end

/-- Settles O57: PUSH is Push16 of the pair, and POP writes the word on top to it. -/
theorem pushAndPopPairs : Obligations.PushAndPopPairs := by
  unfold Obligations.PushAndPopPairs
  intro q s
  obtain ⟨t, ht, hpop⟩ := exec_pop_spec q s
  exact ⟨⟨push_encodes q, exec_push_spec q s⟩, pop_encodes q, t, s.stackTop, ht, stackTop_toNat s, hpop⟩

end Sys2Proof.Machine
end

section
/-! SUPPORT. The miscellaneous instructions (48_misc.md, R300 to R304), the requests that instructions emit (R324), the
latched fault (R336) and the host's `clearHalted` and `interruptEntry` (R325, R326). -/

namespace Sys2Proof.Machine

/-! ## NOP, HALT, STOP, DI and EI (R300 to R304) -/

/-- The state with `halted` set when `halts` holds and the request `ime`, or none, in its output: all that an effect of
48_misc.md can do. -/
def State.signalled (s : State) (halts : Bool) (ime : Option ImeRequest) : State :=
  { s with halted := s.halted || halts, result := { cost := 0, ime := ime } }

section

variable (s : State) (k : Nat)

theorem fetched_eq_signalled : s.fetched k = (s.fetched k).signalled false none := by
  rw [State.signalled, Bool.or_false]
  rfl

theorem halt_fetched : halt (s.fetched k) = (s.fetched k).signalled true none := by
  rw [State.signalled, Bool.or_true]
  rfl

theorem requestIme_fetched (q : ImeRequest) : requestIme q (s.fetched k) = (s.fetched k).signalled false (some q) := by
  rw [State.signalled, Bool.or_false]
  rfl

end

/-- An instruction whose effect is a signal moves PC past its bytes, reports, and writes no register, flag or memory. -/
theorem exec_of_signalled {i : Instr} {s : State} {k cost : Nat} {effect : State → State} {halts : Bool}
    {ime : Option ImeRequest} (h : exec i s = complete k cost effect s)
    (he : effect (s.fetched k) = (s.fetched k).signalled halts ime) :
    ∃ t, exec i s = .next t ∧ t.pc = s.pc + BitVec.ofNat 16 k ∧ Reports s t cost ime ∧ t.halted = (s.halted || halts) ∧
      SameRegs s t [] ∧ t.f = s.f ∧ t.sp = s.sp ∧ SameMem s t [] ∧ t.fault = s.fault ∧ t.params = s.params := by
  rw [complete_eq, he] at h
  exact ⟨_, h, rfl, ⟨rfl, rfl⟩, rfl, fun r _ => by cases r <;> rfl, rfl, rfl, fun _ _ => rfl, rfl, rfl⟩

/-- Settles O59: NOP and STOP signal nothing, HALT sets `halted`, DI and EI emit their request. -/
theorem miscellaneousInstructions : Obligations.MiscellaneousInstructions := by
  unfold Obligations.MiscellaneousInstructions
  refine fun x s => ⟨encodes_of_encode rfl rfl, encodes_of_encode rfl rfl, encodes_of_encode rfl rfl,
    encodes_of_encode rfl rfl, encodes_of_encode rfl rfl, fun i k ime halts hrow => ?_⟩
  simp only [List.mem_cons, List.not_mem_nil, or_false, Prod.mk.injEq] at hrow
  obtain ⟨rfl, rfl, rfl, rfl⟩ | ⟨rfl, rfl, rfl, rfl⟩ | ⟨rfl, rfl, rfl, rfl⟩ | ⟨rfl, rfl, rfl, rfl⟩ |
    ⟨rfl, rfl, rfl, rfl⟩ := hrow
  · exact exec_of_signalled rfl (fetched_eq_signalled s 1)
  · exact exec_of_signalled rfl (halt_fetched s 1)
  · exact exec_of_signalled rfl (fetched_eq_signalled s 2)
  · exact exec_of_signalled rfl (requestIme_fetched s 1 .off)
  · exact exec_of_signalled rfl (requestIme_fetched s 1 .on)

/-! ## The requests of the instructions (R324) -/

/-- The request an instruction emits is that of its side. -/
theorem exec_ime {i : Instr} {s t : State} (h : exec i s = .next t) : t.result.ime = (sideOf i).ime := by
  obtain ⟨k, rfl, rfl⟩ | ⟨-, len, cost, u, rfl, -, -, hu⟩ := exec_next_cases h
  · cases k <;> rfl
  · exact hu.ime.trans Option.or_none

theorem sideOf_ime_eq_on_iff (i : Instr) : (sideOf i).ime = some .on ↔ i = .ei ∨ i = .reti := by
  unfold sideOf
  split <;> simp_all [Side.ime]

theorem sideOf_ime_eq_off_iff (i : Instr) : (sideOf i).ime = some .off ↔ i = .di := by
  unfold sideOf
  split <;> simp_all [Side.ime]

/-- Settles O9: the sides of EI and RETI enable, the side of DI disables, and no other side emits a request. -/
theorem onlyEiDiRetiEmitImeRequests : Obligations.OnlyEiDiRetiEmitImeRequests := by
  unfold Obligations.OnlyEiDiRetiEmitImeRequests
  intro i s t h
  rw [exec_ime h]
  exact ⟨sideOf_ime_eq_on_iff i, sideOf_ime_eq_off_iff i⟩

/-! ## The latched fault (R336) -/

/-- Where an instruction starts from equal cycle counts and reports equal outputs it ends with equal cycle counts. -/
theorem exec_cycleCount_congr {i : Instr} {s s' t t' : State} (hcount : s'.cycleCount = s.cycleCount)
    (hparams : s'.params = s.params) (h : exec i s = .next t) (h' : exec i s' = .next t')
    (hresult : t'.result = t.result) : t'.cycleCount = t.cycleCount := by
  have hcases := exec_cycleCount h'
  rw [hresult, hcount, hparams] at hcases
  obtain ⟨hc, hn⟩ | ⟨cost, hc, hn⟩ := exec_cycleCount h
  · obtain ⟨-, hn'⟩ | ⟨cost', hc', -⟩ := hcases
    · rw [hn, hn']
    · omega
  · obtain ⟨hc', -⟩ | ⟨cost', hc', hn'⟩ := hcases
    · omega
    · obtain rfl : cost = cost' := by omega
      rw [hn, hn']

/-- An instruction does the same with a latched fault as without one, apart from the latch. -/
theorem exec_without_fault (i : Instr) (s : State) :
    ∃ t u, exec i s = .next t ∧ exec i { s with fault := none } = .next u ∧
      ({ t with fault := u.fault } : State) = u := by
  obtain ⟨t, u, ht, hu, hagree⟩ := exec_agrees i s s.cycleCount none
  have hresult : u.result = t.result := congrArg (fun v => v.result) hagree
  have hcount : u.cycleCount = t.cycleCount :=
    exec_cycleCount_congr (s := s) (s' := s.withCountFault s.cycleCount none) rfl rfl ht hu hresult
  refine ⟨t, u, ht, hu, ?_⟩
  rw [← hagree, ← hcount]
  rfl

/-- A step that a latched fault does not stop does the same as without one, apart from the latch (R336). -/
theorem step_without_fault {s : State} (hs : s.stuck = false) :
    ∃ t u, step s = .next t ∧ step { s with fault := none } = .next u ∧ ({ t with fault := u.fault } : State) = u := by
  have hs' : ({ s with fault := none } : State).stuck = false := (State.stuck_eq_false_iff _).2 (.inl rfl)
  obtain hh | hh := Bool.eq_false_or_eq_true s.halted
  · exact ⟨_, _, step_of_halted hs hh, step_of_halted hs' hh, rfl⟩
  · rw [step_of_running hs hh, step_of_running hs' hh]
    exact exec_without_fault s.nextInstr s

/-- Settles O3: the latched fault makes the core stuck exactly when ILLEGAL_CONTINUES is false. -/
theorem latchedFaultStopsTheCore : Obligations.LatchedFaultStopsTheCore := by
  unfold Obligations.LatchedFaultStopsTheCore
  refine fun s x hx => ⟨fun hstops => ?_, fun hcontinues => ?_, fun b => by cases b <;> rfl⟩
  · have hs : s.stuck = true := s.stuck_eq_true_iff.2 ⟨by simp [hx], hstops⟩
    exact ⟨_, step_of_stuck hs, rfl, rfl⟩
  · obtain ⟨t, u, ht, hu, hagree⟩ := step_without_fault (s.stuck_eq_false_iff.2 (.inr hcontinues))
    obtain ⟨-, hkeeps, -⟩ := onlyIllegalOpcodesLatchAFault s t ht
    exact ⟨t, u, ht, hu, hkeeps x hx, hagree⟩

/-! ## The host's clearHalted and interruptEntry (R325, R326) -/

theorem mem_vectors_iff (x : Word) :
    x ∈ ([0x40, 0x48, 0x50, 0x58, 0x60] : List Word) ↔ ∃ v : InterruptVector, v.address = x := by
  simp only [List.mem_cons, List.not_mem_nil, or_false]
  constructor
  · rintro (rfl | rfl | rfl | rfl | rfl)
    · exact ⟨.v40, rfl⟩
    · exact ⟨.v48, rfl⟩
    · exact ⟨.v50, rfl⟩
    · exact ⟨.v58, rfl⟩
    · exact ⟨.v60, rfl⟩
  · rintro ⟨v, rfl⟩
    cases v <;> simp [InterruptVector.address]

/-- The entry pushes the PC it started with: neither `halted` nor the output is part of the push. -/
theorem enterInterrupt_pushed (s : State) (x : Word) : Pushed s (s.enterInterrupt x) s.pc :=
  (push16_pushed { s with halted := false, result := StepResult.none } s.pc).congr rfl rfl rfl rfl

theorem interruptEntry_of_disabled {s : State} (h : s.params.interruptEntry = false) (v : InterruptVector) :
    interruptEntry v s = none := by
  simp [interruptEntry, h]

/-- Settles O17: without the parameter there is no entry, with it the entry is `enterInterrupt` at the vector. -/
theorem clearHaltedAndInterruptEntry : Obligations.ClearHaltedAndInterruptEntry := by
  unfold Obligations.ClearHaltedAndInterruptEntry
  refine ⟨fun _ => ⟨rfl, rfl⟩, fun v _ h => interruptEntry_of_disabled h v, mem_vectors_iff, fun v s h => ?_⟩
  have hreports : Reports s (s.enterInterrupt v.address) 20 none :=
    ⟨State.result_enterInterrupt .., State.cycleCount_enterInterrupt ..⟩
  exact ⟨_, interruptEntry_eq_some_iff.2 ⟨h, rfl⟩, State.halted_enterInterrupt .., enterInterrupt_pushed s _,
    State.pc_enterInterrupt .., hreports, fun _ _ => State.reg_enterInterrupt .., State.f_enterInterrupt ..,
    State.fault_enterInterrupt .., State.params_enterInterrupt ..⟩

end Sys2Proof.Machine
end
